-- ==== Sys2Proof/Word.lean ====
section
/-! DEFINITION. The two word types of the machine (R3, R8): 8-bit data and 16-bit addresses. All values are unsigned (R9). -/

namespace Sys2Proof

/-- A byte: the width of A, B, C, D, IR, FLAGS, the ALU and every memory access (R3, R108). -/
abbrev Byte := BitVec 8

/-- A 16-bit word: the width of PC, SP and addresses (R3, R100). -/
abbrev Word := BitVec 16

end Sys2Proof
end

