-- ==== Sys2Proof/Config.lean ====
section
/-! DEFINITION. The implementation parameters of R7, as plain data held in State (log 3), the two constants the source
fixes, and the free values of the model: what a host device answers (D36, log 5) and what a service of SYSCALL does
(D17, log 10). -/

namespace Sys2Proof

/-- IO_BASE, the first I/O address (R7, R101). -/
def ioBase : Word := 0xFF00#16

/-- CACHE_MAX, the most entries an L1 cache holds (R7, R47). -/
def cacheMax : Nat := 128

/-- IE_RESET, the interrupt enable of every core at reset (R7, R43). -/
def ieReset : Bool := true

/-- IRQ_SELECT, the order in which an IRQ is selected (R7, R478, C6). -/
inductive IrqSelect where
  /-- The lowest of the IRQs deliverable to this core (the reference value). -/
  | filterThenLowest
  /-- The lowest pending IRQ, if its route lets this core take it (the alternative). -/
  | lowestThenRoute
deriving DecidableEq, Repr

/-- ROUTE_PORTS, the layout of interrupt controller ports 6 and 7 (R7, R473, C9). -/
inductive RoutePorts where
  /-- The IRQ in the high nibble, the index in the low nibble (the reference value). -/
  | irqNibblePerPort
  /-- Port 6 selects the IRQ, port 7 carries both indices (the alternative). -/
  | selectThenNibbles
deriving DecidableEq, Repr

/-- INVALIDATE_SCOPE, which caches a RAM write invalidates (R7, R110). -/
inductive InvalidateScope where
  /-- Only the writing CPU's cache (the spec's value). -/
  | ownCpu
  /-- Every CPU's cache (the alternative). -/
  | allCpus
deriving DecidableEq, Repr

/-- OPCODE_MAP (R164), as the bytes on which it differs from REF_MAP (R166). An entry `(b, some k)` gives the opcode
byte `b` the instruction kind that REF_MAP gives the byte `k`, an entry `(b, none)` leaves `b` unassigned, and a byte
with no entry has its REF_MAP kind. The first entry for a byte counts. Every map of R164 can be written so (log 4). -/
abbrev OpcodeMap := List (Byte × Option Byte)

/-- The parameters of R7 that the machine reads after launch, or that name a region of its map. NUM_CPUS and NUM_CORES
are the lengths of State's lists, and the reset parameters are arguments of `Machine.State.launch` (log 3). -/
structure Config where
  /-- ROM_END, the last ROM address (R101). -/
  romEnd : Word
  /-- OS_START, where SYSCALL 0 goes (R102, R382). -/
  osStart : Word
  /-- OS_END (R102). -/
  osEnd : Word
  /-- PROGRAM_START, the first byte SYSCALL 0 clears (R102, R382). -/
  programStart : Word
  /-- PROGRAM_END, the last byte SYSCALL 0 clears (R102, R382). -/
  programEnd : Word
  /-- STACK_START (R102). -/
  stackStart : Word
  /-- STACK_END (R102, R542). -/
  stackEnd : Word
  /-- RESET_VECTOR, PC of every core at reset (R41). -/
  resetVector : Word
  /-- IC_SLOT, the I/O slot of the interrupt controller (R467). -/
  icSlot : Nat
  /-- The I/O slots that hold a host device (R107). -/
  hostDevices : List Nat
  /-- EMPTY_SLOT_READ, what a slot with no device reads as (R107). -/
  emptySlotRead : Byte
  /-- IRQ_SELECT (R478). -/
  irqSelect : IrqSelect
  /-- ROUTE_PORTS (R473). -/
  routePorts : RoutePorts
  /-- INVALIDATE_SCOPE (R110). -/
  invalidateScope : InvalidateScope
  /-- OPCODE_MAP (R164). -/
  opcodeMap : OpcodeMap
  /-- SYSCALL_OTHER, the meaning of SYSCALL n for n not 0 (R382, D17): the operands to which the operating system gives a
  service. Every other one is refused, and the reference value gives none (log 10). -/
  syscallOther : List Byte
deriving DecidableEq, Repr

/-- The reference values of R7. -/
def Config.reference : Config where
  romEnd := 0x0FFF#16
  osStart := 0x1000#16
  osEnd := 0x1FFF#16
  programStart := 0x2000#16
  programEnd := 0xEFFF#16
  stackStart := 0xF000#16
  stackEnd := 0xFEFF#16
  resetVector := 0x0000#16
  icSlot := 4
  hostDevices := []
  emptySlotRead := 0x00#8
  irqSelect := .filterThenLowest
  routePorts := .irqNibblePerPort
  invalidateScope := .ownCpu
  opcodeMap := []
  syscallOther := []

/-- The byte a host device answers to a port read: the oracle of D36, a free value (M12, log 5). Its arguments are the
number of free values drawn before this one, the slot and the port. -/
opaque Config.deviceAnswer (draw slot port : Nat) : Byte

/-- What one service of SYSCALL n, n not 0, does: it leaves these general registers and this PC, after these accesses in
this order. An access is a write of a byte, or a read (log 10). -/
structure Service where
  /-- Register A afterwards. -/
  a : Byte
  /-- Register B afterwards. -/
  b : Byte
  /-- Register C afterwards. -/
  c : Byte
  /-- Register D afterwards. -/
  d : Byte
  /-- PC afterwards. -/
  pc : Word
  /-- The bus accesses: an address and the byte written there, or none for a read. -/
  accesses : List (Word × Option Byte)
deriving DecidableEq, Repr, Inhabited

/-- What the operating system does for SYSCALL `n` (D17): a free value, since the services lie outside the spec (N26,
log 10). `draw` is the number of free values drawn before this one. -/
opaque Config.serviceAnswer (draw : Nat) (n : Byte) : Service

end Sys2Proof
end

