-- ==== Sys2Proof/Syntax.lean ====
section
/-! DEFINITION. The instructions: one constructor per row of spec/opcode_table.json. The registers a row names are in
its constructor, as the row's mnemonic has them (R166); an immediate or an address is an argument. -/

namespace Sys2Proof

/-- The four general registers (R31). -/
inductive Reg where
  | a
  | b
  | c
  | d
deriving DecidableEq, Repr

/-- The instructions of the opcode table (R166). Every value of an operand is legal (R168). -/
inductive Instr where
  /-- NOP, REF_MAP 0x00, NONE, length 1 (R380). -/
  | nop
  /-- HALT, REF_MAP 0x01, NONE, length 1 (R381). -/
  | halt
  /-- SYSCALL, REF_MAP 0x02, IMM8, length 2 (R382). -/
  | syscall (imm : Byte)
  /-- BREAKPOINT, REF_MAP 0x03, NONE, length 1 (R383). -/
  | breakpoint
  /-- EI, REF_MAP 0x04, NONE, length 1 (R384). -/
  | ei
  /-- DI, REF_MAP 0x05, NONE, length 1 (R385). -/
  | di
  /-- IRET, REF_MAP 0x06, NONE, length 1 (R348). -/
  | iret
  /-- RET, REF_MAP 0x07, NONE, length 1 (R347). -/
  | ret
  /-- CALL, REF_MAP 0x08, IMM16, length 3 (R346). -/
  | call (imm : Word)
  /-- JMP, REF_MAP 0x09, IMM16, length 3 (R341). -/
  | jmp (imm : Word)
  /-- JZ, REF_MAP 0x0A, IMM16, length 3 (R342). -/
  | jz (imm : Word)
  /-- JNZ, REF_MAP 0x0B, IMM16, length 3 (R343). -/
  | jnz (imm : Word)
  /-- JC, REF_MAP 0x0C, IMM16, length 3 (R344). -/
  | jc (imm : Word)
  /-- JNC, REF_MAP 0x0D, IMM16, length 3 (R345). -/
  | jnc (imm : Word)
  /-- SET_SP, REF_MAP 0x0E, IMM16, length 3 (R308). -/
  | setSp (imm : Word)
  /-- PUSH_A, REF_MAP 0x10, REG, length 1 (R306). -/
  | pushA
  /-- PUSH_B, REF_MAP 0x11, REG, length 1 (R306). -/
  | pushB
  /-- PUSH_C, REF_MAP 0x12, REG, length 1 (R306). -/
  | pushC
  /-- PUSH_D, REF_MAP 0x13, REG, length 1 (R306). -/
  | pushD
  /-- POP_A, REF_MAP 0x14, REG, length 1 (R307). -/
  | popA
  /-- POP_B, REF_MAP 0x15, REG, length 1 (R307). -/
  | popB
  /-- POP_C, REF_MAP 0x16, REG, length 1 (R307). -/
  | popC
  /-- POP_D, REF_MAP 0x17, REG, length 1 (R307). -/
  | popD
  /-- INC_A, REF_MAP 0x18, REG, length 1 (R268). -/
  | incA
  /-- INC_B, REF_MAP 0x19, REG, length 1 (R268). -/
  | incB
  /-- INC_C, REF_MAP 0x1A, REG, length 1 (R268). -/
  | incC
  /-- INC_D, REF_MAP 0x1B, REG, length 1 (R268). -/
  | incD
  /-- DEC_A, REF_MAP 0x1C, REG, length 1 (R269). -/
  | decA
  /-- DEC_B, REF_MAP 0x1D, REG, length 1 (R269). -/
  | decB
  /-- DEC_C, REF_MAP 0x1E, REG, length 1 (R269). -/
  | decC
  /-- DEC_D, REF_MAP 0x1F, REG, length 1 (R269). -/
  | decD
  /-- NOT_A, REF_MAP 0x20, REG, length 1 (R270). -/
  | notA
  /-- NOT_B, REF_MAP 0x21, REG, length 1 (R270). -/
  | notB
  /-- NOT_C, REF_MAP 0x22, REG, length 1 (R270). -/
  | notC
  /-- NOT_D, REF_MAP 0x23, REG, length 1 (R270). -/
  | notD
  /-- MOV_A_IMM, REF_MAP 0x24, REG_IMM8, length 2 (R303). -/
  | movAImm (imm : Byte)
  /-- MOV_B_IMM, REF_MAP 0x25, REG_IMM8, length 2 (R303). -/
  | movBImm (imm : Byte)
  /-- MOV_C_IMM, REF_MAP 0x26, REG_IMM8, length 2 (R303). -/
  | movCImm (imm : Byte)
  /-- MOV_D_IMM, REF_MAP 0x27, REG_IMM8, length 2 (R303). -/
  | movDImm (imm : Byte)
  /-- MOV_A_MEM, REF_MAP 0x28, REG_MEM, length 3 (R304). -/
  | movAMem (addr : Word)
  /-- MOV_B_MEM, REF_MAP 0x29, REG_MEM, length 3 (R304). -/
  | movBMem (addr : Word)
  /-- MOV_C_MEM, REF_MAP 0x2A, REG_MEM, length 3 (R304). -/
  | movCMem (addr : Word)
  /-- MOV_D_MEM, REF_MAP 0x2B, REG_MEM, length 3 (R304). -/
  | movDMem (addr : Word)
  /-- MOV_MEM_A, REF_MAP 0x2C, MEM_REG, length 3 (R305). -/
  | movMemA (addr : Word)
  /-- MOV_MEM_B, REF_MAP 0x2D, MEM_REG, length 3 (R305). -/
  | movMemB (addr : Word)
  /-- MOV_MEM_C, REF_MAP 0x2E, MEM_REG, length 3 (R305). -/
  | movMemC (addr : Word)
  /-- MOV_MEM_D, REF_MAP 0x2F, MEM_REG, length 3 (R305). -/
  | movMemD (addr : Word)
  /-- MOV_A_A, REF_MAP 0x30, REG_REG, length 1 (R302). -/
  | movAA
  /-- MOV_A_B, REF_MAP 0x31, REG_REG, length 1 (R302). -/
  | movAB
  /-- MOV_A_C, REF_MAP 0x32, REG_REG, length 1 (R302). -/
  | movAC
  /-- MOV_A_D, REF_MAP 0x33, REG_REG, length 1 (R302). -/
  | movAD
  /-- MOV_B_A, REF_MAP 0x34, REG_REG, length 1 (R302). -/
  | movBA
  /-- MOV_B_B, REF_MAP 0x35, REG_REG, length 1 (R302). -/
  | movBB
  /-- MOV_B_C, REF_MAP 0x36, REG_REG, length 1 (R302). -/
  | movBC
  /-- MOV_B_D, REF_MAP 0x37, REG_REG, length 1 (R302). -/
  | movBD
  /-- MOV_C_A, REF_MAP 0x38, REG_REG, length 1 (R302). -/
  | movCA
  /-- MOV_C_B, REF_MAP 0x39, REG_REG, length 1 (R302). -/
  | movCB
  /-- MOV_C_C, REF_MAP 0x3A, REG_REG, length 1 (R302). -/
  | movCC
  /-- MOV_C_D, REF_MAP 0x3B, REG_REG, length 1 (R302). -/
  | movCD
  /-- MOV_D_A, REF_MAP 0x3C, REG_REG, length 1 (R302). -/
  | movDA
  /-- MOV_D_B, REF_MAP 0x3D, REG_REG, length 1 (R302). -/
  | movDB
  /-- MOV_D_C, REF_MAP 0x3E, REG_REG, length 1 (R302). -/
  | movDC
  /-- MOV_D_D, REF_MAP 0x3F, REG_REG, length 1 (R302). -/
  | movDD
  /-- ADD_A_A, REF_MAP 0x40, REG_REG, length 1 (R254). -/
  | addAA
  /-- ADD_A_B, REF_MAP 0x41, REG_REG, length 1 (R254). -/
  | addAB
  /-- ADD_A_C, REF_MAP 0x42, REG_REG, length 1 (R254). -/
  | addAC
  /-- ADD_A_D, REF_MAP 0x43, REG_REG, length 1 (R254). -/
  | addAD
  /-- ADD_B_A, REF_MAP 0x44, REG_REG, length 1 (R254). -/
  | addBA
  /-- ADD_B_B, REF_MAP 0x45, REG_REG, length 1 (R254). -/
  | addBB
  /-- ADD_B_C, REF_MAP 0x46, REG_REG, length 1 (R254). -/
  | addBC
  /-- ADD_B_D, REF_MAP 0x47, REG_REG, length 1 (R254). -/
  | addBD
  /-- ADD_C_A, REF_MAP 0x48, REG_REG, length 1 (R254). -/
  | addCA
  /-- ADD_C_B, REF_MAP 0x49, REG_REG, length 1 (R254). -/
  | addCB
  /-- ADD_C_C, REF_MAP 0x4A, REG_REG, length 1 (R254). -/
  | addCC
  /-- ADD_C_D, REF_MAP 0x4B, REG_REG, length 1 (R254). -/
  | addCD
  /-- ADD_D_A, REF_MAP 0x4C, REG_REG, length 1 (R254). -/
  | addDA
  /-- ADD_D_B, REF_MAP 0x4D, REG_REG, length 1 (R254). -/
  | addDB
  /-- ADD_D_C, REF_MAP 0x4E, REG_REG, length 1 (R254). -/
  | addDC
  /-- ADD_D_D, REF_MAP 0x4F, REG_REG, length 1 (R254). -/
  | addDD
  /-- SUB_A_A, REF_MAP 0x50, REG_REG, length 1 (R256). -/
  | subAA
  /-- SUB_A_B, REF_MAP 0x51, REG_REG, length 1 (R256). -/
  | subAB
  /-- SUB_A_C, REF_MAP 0x52, REG_REG, length 1 (R256). -/
  | subAC
  /-- SUB_A_D, REF_MAP 0x53, REG_REG, length 1 (R256). -/
  | subAD
  /-- SUB_B_A, REF_MAP 0x54, REG_REG, length 1 (R256). -/
  | subBA
  /-- SUB_B_B, REF_MAP 0x55, REG_REG, length 1 (R256). -/
  | subBB
  /-- SUB_B_C, REF_MAP 0x56, REG_REG, length 1 (R256). -/
  | subBC
  /-- SUB_B_D, REF_MAP 0x57, REG_REG, length 1 (R256). -/
  | subBD
  /-- SUB_C_A, REF_MAP 0x58, REG_REG, length 1 (R256). -/
  | subCA
  /-- SUB_C_B, REF_MAP 0x59, REG_REG, length 1 (R256). -/
  | subCB
  /-- SUB_C_C, REF_MAP 0x5A, REG_REG, length 1 (R256). -/
  | subCC
  /-- SUB_C_D, REF_MAP 0x5B, REG_REG, length 1 (R256). -/
  | subCD
  /-- SUB_D_A, REF_MAP 0x5C, REG_REG, length 1 (R256). -/
  | subDA
  /-- SUB_D_B, REF_MAP 0x5D, REG_REG, length 1 (R256). -/
  | subDB
  /-- SUB_D_C, REF_MAP 0x5E, REG_REG, length 1 (R256). -/
  | subDC
  /-- SUB_D_D, REF_MAP 0x5F, REG_REG, length 1 (R256). -/
  | subDD
  /-- AND_A_A, REF_MAP 0x60, REG_REG, length 1 (R258). -/
  | andAA
  /-- AND_A_B, REF_MAP 0x61, REG_REG, length 1 (R258). -/
  | andAB
  /-- AND_A_C, REF_MAP 0x62, REG_REG, length 1 (R258). -/
  | andAC
  /-- AND_A_D, REF_MAP 0x63, REG_REG, length 1 (R258). -/
  | andAD
  /-- AND_B_A, REF_MAP 0x64, REG_REG, length 1 (R258). -/
  | andBA
  /-- AND_B_B, REF_MAP 0x65, REG_REG, length 1 (R258). -/
  | andBB
  /-- AND_B_C, REF_MAP 0x66, REG_REG, length 1 (R258). -/
  | andBC
  /-- AND_B_D, REF_MAP 0x67, REG_REG, length 1 (R258). -/
  | andBD
  /-- AND_C_A, REF_MAP 0x68, REG_REG, length 1 (R258). -/
  | andCA
  /-- AND_C_B, REF_MAP 0x69, REG_REG, length 1 (R258). -/
  | andCB
  /-- AND_C_C, REF_MAP 0x6A, REG_REG, length 1 (R258). -/
  | andCC
  /-- AND_C_D, REF_MAP 0x6B, REG_REG, length 1 (R258). -/
  | andCD
  /-- AND_D_A, REF_MAP 0x6C, REG_REG, length 1 (R258). -/
  | andDA
  /-- AND_D_B, REF_MAP 0x6D, REG_REG, length 1 (R258). -/
  | andDB
  /-- AND_D_C, REF_MAP 0x6E, REG_REG, length 1 (R258). -/
  | andDC
  /-- AND_D_D, REF_MAP 0x6F, REG_REG, length 1 (R258). -/
  | andDD
  /-- OR_A_A, REF_MAP 0x70, REG_REG, length 1 (R260). -/
  | orAA
  /-- OR_A_B, REF_MAP 0x71, REG_REG, length 1 (R260). -/
  | orAB
  /-- OR_A_C, REF_MAP 0x72, REG_REG, length 1 (R260). -/
  | orAC
  /-- OR_A_D, REF_MAP 0x73, REG_REG, length 1 (R260). -/
  | orAD
  /-- OR_B_A, REF_MAP 0x74, REG_REG, length 1 (R260). -/
  | orBA
  /-- OR_B_B, REF_MAP 0x75, REG_REG, length 1 (R260). -/
  | orBB
  /-- OR_B_C, REF_MAP 0x76, REG_REG, length 1 (R260). -/
  | orBC
  /-- OR_B_D, REF_MAP 0x77, REG_REG, length 1 (R260). -/
  | orBD
  /-- OR_C_A, REF_MAP 0x78, REG_REG, length 1 (R260). -/
  | orCA
  /-- OR_C_B, REF_MAP 0x79, REG_REG, length 1 (R260). -/
  | orCB
  /-- OR_C_C, REF_MAP 0x7A, REG_REG, length 1 (R260). -/
  | orCC
  /-- OR_C_D, REF_MAP 0x7B, REG_REG, length 1 (R260). -/
  | orCD
  /-- OR_D_A, REF_MAP 0x7C, REG_REG, length 1 (R260). -/
  | orDA
  /-- OR_D_B, REF_MAP 0x7D, REG_REG, length 1 (R260). -/
  | orDB
  /-- OR_D_C, REF_MAP 0x7E, REG_REG, length 1 (R260). -/
  | orDC
  /-- OR_D_D, REF_MAP 0x7F, REG_REG, length 1 (R260). -/
  | orDD
  /-- XOR_A_A, REF_MAP 0x80, REG_REG, length 1 (R262). -/
  | xorAA
  /-- XOR_A_B, REF_MAP 0x81, REG_REG, length 1 (R262). -/
  | xorAB
  /-- XOR_A_C, REF_MAP 0x82, REG_REG, length 1 (R262). -/
  | xorAC
  /-- XOR_A_D, REF_MAP 0x83, REG_REG, length 1 (R262). -/
  | xorAD
  /-- XOR_B_A, REF_MAP 0x84, REG_REG, length 1 (R262). -/
  | xorBA
  /-- XOR_B_B, REF_MAP 0x85, REG_REG, length 1 (R262). -/
  | xorBB
  /-- XOR_B_C, REF_MAP 0x86, REG_REG, length 1 (R262). -/
  | xorBC
  /-- XOR_B_D, REF_MAP 0x87, REG_REG, length 1 (R262). -/
  | xorBD
  /-- XOR_C_A, REF_MAP 0x88, REG_REG, length 1 (R262). -/
  | xorCA
  /-- XOR_C_B, REF_MAP 0x89, REG_REG, length 1 (R262). -/
  | xorCB
  /-- XOR_C_C, REF_MAP 0x8A, REG_REG, length 1 (R262). -/
  | xorCC
  /-- XOR_C_D, REF_MAP 0x8B, REG_REG, length 1 (R262). -/
  | xorCD
  /-- XOR_D_A, REF_MAP 0x8C, REG_REG, length 1 (R262). -/
  | xorDA
  /-- XOR_D_B, REF_MAP 0x8D, REG_REG, length 1 (R262). -/
  | xorDB
  /-- XOR_D_C, REF_MAP 0x8E, REG_REG, length 1 (R262). -/
  | xorDC
  /-- XOR_D_D, REF_MAP 0x8F, REG_REG, length 1 (R262). -/
  | xorDD
  /-- CMP_A_A, REF_MAP 0x90, REG_REG, length 1 (R264). -/
  | cmpAA
  /-- CMP_A_B, REF_MAP 0x91, REG_REG, length 1 (R264). -/
  | cmpAB
  /-- CMP_A_C, REF_MAP 0x92, REG_REG, length 1 (R264). -/
  | cmpAC
  /-- CMP_A_D, REF_MAP 0x93, REG_REG, length 1 (R264). -/
  | cmpAD
  /-- CMP_B_A, REF_MAP 0x94, REG_REG, length 1 (R264). -/
  | cmpBA
  /-- CMP_B_B, REF_MAP 0x95, REG_REG, length 1 (R264). -/
  | cmpBB
  /-- CMP_B_C, REF_MAP 0x96, REG_REG, length 1 (R264). -/
  | cmpBC
  /-- CMP_B_D, REF_MAP 0x97, REG_REG, length 1 (R264). -/
  | cmpBD
  /-- CMP_C_A, REF_MAP 0x98, REG_REG, length 1 (R264). -/
  | cmpCA
  /-- CMP_C_B, REF_MAP 0x99, REG_REG, length 1 (R264). -/
  | cmpCB
  /-- CMP_C_C, REF_MAP 0x9A, REG_REG, length 1 (R264). -/
  | cmpCC
  /-- CMP_C_D, REF_MAP 0x9B, REG_REG, length 1 (R264). -/
  | cmpCD
  /-- CMP_D_A, REF_MAP 0x9C, REG_REG, length 1 (R264). -/
  | cmpDA
  /-- CMP_D_B, REF_MAP 0x9D, REG_REG, length 1 (R264). -/
  | cmpDB
  /-- CMP_D_C, REF_MAP 0x9E, REG_REG, length 1 (R264). -/
  | cmpDC
  /-- CMP_D_D, REF_MAP 0x9F, REG_REG, length 1 (R264). -/
  | cmpDD
  /-- TEST_A_A, REF_MAP 0xA0, REG_REG, length 1 (R266). -/
  | testAA
  /-- TEST_A_B, REF_MAP 0xA1, REG_REG, length 1 (R266). -/
  | testAB
  /-- TEST_A_C, REF_MAP 0xA2, REG_REG, length 1 (R266). -/
  | testAC
  /-- TEST_A_D, REF_MAP 0xA3, REG_REG, length 1 (R266). -/
  | testAD
  /-- TEST_B_A, REF_MAP 0xA4, REG_REG, length 1 (R266). -/
  | testBA
  /-- TEST_B_B, REF_MAP 0xA5, REG_REG, length 1 (R266). -/
  | testBB
  /-- TEST_B_C, REF_MAP 0xA6, REG_REG, length 1 (R266). -/
  | testBC
  /-- TEST_B_D, REF_MAP 0xA7, REG_REG, length 1 (R266). -/
  | testBD
  /-- TEST_C_A, REF_MAP 0xA8, REG_REG, length 1 (R266). -/
  | testCA
  /-- TEST_C_B, REF_MAP 0xA9, REG_REG, length 1 (R266). -/
  | testCB
  /-- TEST_C_C, REF_MAP 0xAA, REG_REG, length 1 (R266). -/
  | testCC
  /-- TEST_C_D, REF_MAP 0xAB, REG_REG, length 1 (R266). -/
  | testCD
  /-- TEST_D_A, REF_MAP 0xAC, REG_REG, length 1 (R266). -/
  | testDA
  /-- TEST_D_B, REF_MAP 0xAD, REG_REG, length 1 (R266). -/
  | testDB
  /-- TEST_D_C, REF_MAP 0xAE, REG_REG, length 1 (R266). -/
  | testDC
  /-- TEST_D_D, REF_MAP 0xAF, REG_REG, length 1 (R266). -/
  | testDD
  /-- ADD_A_IMM, REF_MAP 0xB0, REG_IMM8, length 2 (R255). -/
  | addAImm (imm : Byte)
  /-- ADD_B_IMM, REF_MAP 0xB1, REG_IMM8, length 2 (R255). -/
  | addBImm (imm : Byte)
  /-- ADD_C_IMM, REF_MAP 0xB2, REG_IMM8, length 2 (R255). -/
  | addCImm (imm : Byte)
  /-- ADD_D_IMM, REF_MAP 0xB3, REG_IMM8, length 2 (R255). -/
  | addDImm (imm : Byte)
  /-- SUB_A_IMM, REF_MAP 0xB4, REG_IMM8, length 2 (R257). -/
  | subAImm (imm : Byte)
  /-- SUB_B_IMM, REF_MAP 0xB5, REG_IMM8, length 2 (R257). -/
  | subBImm (imm : Byte)
  /-- SUB_C_IMM, REF_MAP 0xB6, REG_IMM8, length 2 (R257). -/
  | subCImm (imm : Byte)
  /-- SUB_D_IMM, REF_MAP 0xB7, REG_IMM8, length 2 (R257). -/
  | subDImm (imm : Byte)
  /-- AND_A_IMM, REF_MAP 0xB8, REG_IMM8, length 2 (R259). -/
  | andAImm (imm : Byte)
  /-- AND_B_IMM, REF_MAP 0xB9, REG_IMM8, length 2 (R259). -/
  | andBImm (imm : Byte)
  /-- AND_C_IMM, REF_MAP 0xBA, REG_IMM8, length 2 (R259). -/
  | andCImm (imm : Byte)
  /-- AND_D_IMM, REF_MAP 0xBB, REG_IMM8, length 2 (R259). -/
  | andDImm (imm : Byte)
  /-- OR_A_IMM, REF_MAP 0xBC, REG_IMM8, length 2 (R261). -/
  | orAImm (imm : Byte)
  /-- OR_B_IMM, REF_MAP 0xBD, REG_IMM8, length 2 (R261). -/
  | orBImm (imm : Byte)
  /-- OR_C_IMM, REF_MAP 0xBE, REG_IMM8, length 2 (R261). -/
  | orCImm (imm : Byte)
  /-- OR_D_IMM, REF_MAP 0xBF, REG_IMM8, length 2 (R261). -/
  | orDImm (imm : Byte)
  /-- XOR_A_IMM, REF_MAP 0xC0, REG_IMM8, length 2 (R263). -/
  | xorAImm (imm : Byte)
  /-- XOR_B_IMM, REF_MAP 0xC1, REG_IMM8, length 2 (R263). -/
  | xorBImm (imm : Byte)
  /-- XOR_C_IMM, REF_MAP 0xC2, REG_IMM8, length 2 (R263). -/
  | xorCImm (imm : Byte)
  /-- XOR_D_IMM, REF_MAP 0xC3, REG_IMM8, length 2 (R263). -/
  | xorDImm (imm : Byte)
  /-- CMP_A_IMM, REF_MAP 0xC4, REG_IMM8, length 2 (R265). -/
  | cmpAImm (imm : Byte)
  /-- CMP_B_IMM, REF_MAP 0xC5, REG_IMM8, length 2 (R265). -/
  | cmpBImm (imm : Byte)
  /-- CMP_C_IMM, REF_MAP 0xC6, REG_IMM8, length 2 (R265). -/
  | cmpCImm (imm : Byte)
  /-- CMP_D_IMM, REF_MAP 0xC7, REG_IMM8, length 2 (R265). -/
  | cmpDImm (imm : Byte)
  /-- TEST_A_IMM, REF_MAP 0xC8, REG_IMM8, length 2 (R267). -/
  | testAImm (imm : Byte)
  /-- TEST_B_IMM, REF_MAP 0xC9, REG_IMM8, length 2 (R267). -/
  | testBImm (imm : Byte)
  /-- TEST_C_IMM, REF_MAP 0xCA, REG_IMM8, length 2 (R267). -/
  | testCImm (imm : Byte)
  /-- TEST_D_IMM, REF_MAP 0xCB, REG_IMM8, length 2 (R267). -/
  | testDImm (imm : Byte)
  /-- SHL_A_IMM, REF_MAP 0xCC, REG_IMM8, length 2 (R271). -/
  | shlAImm (imm : Byte)
  /-- SHL_B_IMM, REF_MAP 0xCD, REG_IMM8, length 2 (R271). -/
  | shlBImm (imm : Byte)
  /-- SHL_C_IMM, REF_MAP 0xCE, REG_IMM8, length 2 (R271). -/
  | shlCImm (imm : Byte)
  /-- SHL_D_IMM, REF_MAP 0xCF, REG_IMM8, length 2 (R271). -/
  | shlDImm (imm : Byte)
  /-- SHR_A_IMM, REF_MAP 0xD0, REG_IMM8, length 2 (R272). -/
  | shrAImm (imm : Byte)
  /-- SHR_B_IMM, REF_MAP 0xD1, REG_IMM8, length 2 (R272). -/
  | shrBImm (imm : Byte)
  /-- SHR_C_IMM, REF_MAP 0xD2, REG_IMM8, length 2 (R272). -/
  | shrCImm (imm : Byte)
  /-- SHR_D_IMM, REF_MAP 0xD3, REG_IMM8, length 2 (R272). -/
  | shrDImm (imm : Byte)
  /-- ROL_A_IMM, REF_MAP 0xD4, REG_IMM8, length 2 (R273). -/
  | rolAImm (imm : Byte)
  /-- ROL_B_IMM, REF_MAP 0xD5, REG_IMM8, length 2 (R273). -/
  | rolBImm (imm : Byte)
  /-- ROL_C_IMM, REF_MAP 0xD6, REG_IMM8, length 2 (R273). -/
  | rolCImm (imm : Byte)
  /-- ROL_D_IMM, REF_MAP 0xD7, REG_IMM8, length 2 (R273). -/
  | rolDImm (imm : Byte)
  /-- ROR_A_IMM, REF_MAP 0xD8, REG_IMM8, length 2 (R274). -/
  | rorAImm (imm : Byte)
  /-- ROR_B_IMM, REF_MAP 0xD9, REG_IMM8, length 2 (R274). -/
  | rorBImm (imm : Byte)
  /-- ROR_C_IMM, REF_MAP 0xDA, REG_IMM8, length 2 (R274). -/
  | rorCImm (imm : Byte)
  /-- ROR_D_IMM, REF_MAP 0xDB, REG_IMM8, length 2 (R274). -/
  | rorDImm (imm : Byte)
  /-- CORE_COUNT, REF_MAP 0xE0, NONE, length 1 (R422). -/
  | coreCount
  /-- CORE_STATUS, REF_MAP 0xE1, NONE, length 1 (R423). -/
  | coreStatus
  /-- CORE_START, REF_MAP 0xE2, NONE, length 1 (R424). -/
  | coreStart
  /-- CORE_HALT, REF_MAP 0xE3, NONE, length 1 (R425). -/
  | coreHalt
  /-- CORE_SET_PC, REF_MAP 0xE4, NONE, length 1 (R426). -/
  | coreSetPc
  /-- CPU_COUNT, REF_MAP 0xE5, NONE, length 1 (R427). -/
  | cpuCount
  /-- CPU_STATUS, REF_MAP 0xE6, NONE, length 1 (R428). -/
  | cpuStatus
  /-- CPU_START, REF_MAP 0xE7, NONE, length 1 (R429). -/
  | cpuStart
  /-- CPU_HALT, REF_MAP 0xE8, NONE, length 1 (R430). -/
  | cpuHalt
  /-- CPU_SET_PC, REF_MAP 0xE9, NONE, length 1 (R431). -/
  | cpuSetPc
deriving DecidableEq, Repr

end Sys2Proof
end

