-- ==== Sys2Proof/Decode.lean ====
section
/-! DEFINITION. The encoding (30_encoding.md): byte order (R114), the register forms of each kind, the decoder over any
bytes, which rejects by name, and after it the encoder. -/

namespace Sys2Proof

/-- `w16(lo, hi)`, the 16-bit concatenation `hi:lo` (R8, R161). -/
def w16 (lo hi : Byte) : Word := hi ++ lo

/-- Bits 7:0 of a word. -/
def loByte (w : Word) : Byte := w.extractLsb' 0 8

/-- Bits 15:8 of a word. -/
def hiByte (w : Word) : Byte := w.extractLsb' 8 8

/-- The register a 2-bit field names: A = 00, B = 01, C = 10, D = 11 (R165). -/
def Reg.ofCode (r : BitVec 2) : Reg :=
  match r.toNat with
  | 0 => .a
  | 1 => .b
  | 2 => .c
  | _ => .d

/-- PUSH_r (REG, R306) with register `r`. -/
def Instr.pushReg (r : Reg) : Instr :=
  match r with
  | .a => .pushA
  | .b => .pushB
  | .c => .pushC
  | .d => .pushD

/-- POP_r (REG, R307) with register `r`. -/
def Instr.popReg (r : Reg) : Instr :=
  match r with
  | .a => .popA
  | .b => .popB
  | .c => .popC
  | .d => .popD

/-- INC_r (REG, R268) with register `r`. -/
def Instr.incReg (r : Reg) : Instr :=
  match r with
  | .a => .incA
  | .b => .incB
  | .c => .incC
  | .d => .incD

/-- DEC_r (REG, R269) with register `r`. -/
def Instr.decReg (r : Reg) : Instr :=
  match r with
  | .a => .decA
  | .b => .decB
  | .c => .decC
  | .d => .decD

/-- NOT_r (REG, R270) with register `r`. -/
def Instr.notReg (r : Reg) : Instr :=
  match r with
  | .a => .notA
  | .b => .notB
  | .c => .notC
  | .d => .notD

/-- MOV_r_IMM (REG_IMM8, R303) with register `r`. -/
def Instr.movRegImm (r : Reg) (imm : Byte) : Instr :=
  match r with
  | .a => .movAImm imm
  | .b => .movBImm imm
  | .c => .movCImm imm
  | .d => .movDImm imm

/-- MOV_r_MEM (REG_MEM, R304) with register `r`. -/
def Instr.movRegMem (r : Reg) (addr : Word) : Instr :=
  match r with
  | .a => .movAMem addr
  | .b => .movBMem addr
  | .c => .movCMem addr
  | .d => .movDMem addr

/-- MOV_MEM_r (MEM_REG, R305) with register `r`. -/
def Instr.movMemReg (r : Reg) (addr : Word) : Instr :=
  match r with
  | .a => .movMemA addr
  | .b => .movMemB addr
  | .c => .movMemC addr
  | .d => .movMemD addr

/-- MOV_d_s (REG_REG, R302) with destination `dst` and source `src`. -/
def Instr.movRegReg (dst src : Reg) : Instr :=
  match dst, src with
  | .a, .a => .movAA
  | .a, .b => .movAB
  | .a, .c => .movAC
  | .a, .d => .movAD
  | .b, .a => .movBA
  | .b, .b => .movBB
  | .b, .c => .movBC
  | .b, .d => .movBD
  | .c, .a => .movCA
  | .c, .b => .movCB
  | .c, .c => .movCC
  | .c, .d => .movCD
  | .d, .a => .movDA
  | .d, .b => .movDB
  | .d, .c => .movDC
  | .d, .d => .movDD

/-- ADD_d_s (REG_REG, R254) with destination `dst` and source `src`. -/
def Instr.addRegReg (dst src : Reg) : Instr :=
  match dst, src with
  | .a, .a => .addAA
  | .a, .b => .addAB
  | .a, .c => .addAC
  | .a, .d => .addAD
  | .b, .a => .addBA
  | .b, .b => .addBB
  | .b, .c => .addBC
  | .b, .d => .addBD
  | .c, .a => .addCA
  | .c, .b => .addCB
  | .c, .c => .addCC
  | .c, .d => .addCD
  | .d, .a => .addDA
  | .d, .b => .addDB
  | .d, .c => .addDC
  | .d, .d => .addDD

/-- SUB_d_s (REG_REG, R256) with destination `dst` and source `src`. -/
def Instr.subRegReg (dst src : Reg) : Instr :=
  match dst, src with
  | .a, .a => .subAA
  | .a, .b => .subAB
  | .a, .c => .subAC
  | .a, .d => .subAD
  | .b, .a => .subBA
  | .b, .b => .subBB
  | .b, .c => .subBC
  | .b, .d => .subBD
  | .c, .a => .subCA
  | .c, .b => .subCB
  | .c, .c => .subCC
  | .c, .d => .subCD
  | .d, .a => .subDA
  | .d, .b => .subDB
  | .d, .c => .subDC
  | .d, .d => .subDD

/-- AND_d_s (REG_REG, R258) with destination `dst` and source `src`. -/
def Instr.andRegReg (dst src : Reg) : Instr :=
  match dst, src with
  | .a, .a => .andAA
  | .a, .b => .andAB
  | .a, .c => .andAC
  | .a, .d => .andAD
  | .b, .a => .andBA
  | .b, .b => .andBB
  | .b, .c => .andBC
  | .b, .d => .andBD
  | .c, .a => .andCA
  | .c, .b => .andCB
  | .c, .c => .andCC
  | .c, .d => .andCD
  | .d, .a => .andDA
  | .d, .b => .andDB
  | .d, .c => .andDC
  | .d, .d => .andDD

/-- OR_d_s (REG_REG, R260) with destination `dst` and source `src`. -/
def Instr.orRegReg (dst src : Reg) : Instr :=
  match dst, src with
  | .a, .a => .orAA
  | .a, .b => .orAB
  | .a, .c => .orAC
  | .a, .d => .orAD
  | .b, .a => .orBA
  | .b, .b => .orBB
  | .b, .c => .orBC
  | .b, .d => .orBD
  | .c, .a => .orCA
  | .c, .b => .orCB
  | .c, .c => .orCC
  | .c, .d => .orCD
  | .d, .a => .orDA
  | .d, .b => .orDB
  | .d, .c => .orDC
  | .d, .d => .orDD

/-- XOR_d_s (REG_REG, R262) with destination `dst` and source `src`. -/
def Instr.xorRegReg (dst src : Reg) : Instr :=
  match dst, src with
  | .a, .a => .xorAA
  | .a, .b => .xorAB
  | .a, .c => .xorAC
  | .a, .d => .xorAD
  | .b, .a => .xorBA
  | .b, .b => .xorBB
  | .b, .c => .xorBC
  | .b, .d => .xorBD
  | .c, .a => .xorCA
  | .c, .b => .xorCB
  | .c, .c => .xorCC
  | .c, .d => .xorCD
  | .d, .a => .xorDA
  | .d, .b => .xorDB
  | .d, .c => .xorDC
  | .d, .d => .xorDD

/-- CMP_d_s (REG_REG, R264) with destination `dst` and source `src`. -/
def Instr.cmpRegReg (dst src : Reg) : Instr :=
  match dst, src with
  | .a, .a => .cmpAA
  | .a, .b => .cmpAB
  | .a, .c => .cmpAC
  | .a, .d => .cmpAD
  | .b, .a => .cmpBA
  | .b, .b => .cmpBB
  | .b, .c => .cmpBC
  | .b, .d => .cmpBD
  | .c, .a => .cmpCA
  | .c, .b => .cmpCB
  | .c, .c => .cmpCC
  | .c, .d => .cmpCD
  | .d, .a => .cmpDA
  | .d, .b => .cmpDB
  | .d, .c => .cmpDC
  | .d, .d => .cmpDD

/-- TEST_d_s (REG_REG, R266) with destination `dst` and source `src`. -/
def Instr.testRegReg (dst src : Reg) : Instr :=
  match dst, src with
  | .a, .a => .testAA
  | .a, .b => .testAB
  | .a, .c => .testAC
  | .a, .d => .testAD
  | .b, .a => .testBA
  | .b, .b => .testBB
  | .b, .c => .testBC
  | .b, .d => .testBD
  | .c, .a => .testCA
  | .c, .b => .testCB
  | .c, .c => .testCC
  | .c, .d => .testCD
  | .d, .a => .testDA
  | .d, .b => .testDB
  | .d, .c => .testDC
  | .d, .d => .testDD

/-- ADD_r_IMM (REG_IMM8, R255) with register `r`. -/
def Instr.addRegImm (r : Reg) (imm : Byte) : Instr :=
  match r with
  | .a => .addAImm imm
  | .b => .addBImm imm
  | .c => .addCImm imm
  | .d => .addDImm imm

/-- SUB_r_IMM (REG_IMM8, R257) with register `r`. -/
def Instr.subRegImm (r : Reg) (imm : Byte) : Instr :=
  match r with
  | .a => .subAImm imm
  | .b => .subBImm imm
  | .c => .subCImm imm
  | .d => .subDImm imm

/-- AND_r_IMM (REG_IMM8, R259) with register `r`. -/
def Instr.andRegImm (r : Reg) (imm : Byte) : Instr :=
  match r with
  | .a => .andAImm imm
  | .b => .andBImm imm
  | .c => .andCImm imm
  | .d => .andDImm imm

/-- OR_r_IMM (REG_IMM8, R261) with register `r`. -/
def Instr.orRegImm (r : Reg) (imm : Byte) : Instr :=
  match r with
  | .a => .orAImm imm
  | .b => .orBImm imm
  | .c => .orCImm imm
  | .d => .orDImm imm

/-- XOR_r_IMM (REG_IMM8, R263) with register `r`. -/
def Instr.xorRegImm (r : Reg) (imm : Byte) : Instr :=
  match r with
  | .a => .xorAImm imm
  | .b => .xorBImm imm
  | .c => .xorCImm imm
  | .d => .xorDImm imm

/-- CMP_r_IMM (REG_IMM8, R265) with register `r`. -/
def Instr.cmpRegImm (r : Reg) (imm : Byte) : Instr :=
  match r with
  | .a => .cmpAImm imm
  | .b => .cmpBImm imm
  | .c => .cmpCImm imm
  | .d => .cmpDImm imm

/-- TEST_r_IMM (REG_IMM8, R267) with register `r`. -/
def Instr.testRegImm (r : Reg) (imm : Byte) : Instr :=
  match r with
  | .a => .testAImm imm
  | .b => .testBImm imm
  | .c => .testCImm imm
  | .d => .testDImm imm

/-- SHL_r_IMM (REG_IMM8, R271) with register `r`. -/
def Instr.shlRegImm (r : Reg) (imm : Byte) : Instr :=
  match r with
  | .a => .shlAImm imm
  | .b => .shlBImm imm
  | .c => .shlCImm imm
  | .d => .shlDImm imm

/-- SHR_r_IMM (REG_IMM8, R272) with register `r`. -/
def Instr.shrRegImm (r : Reg) (imm : Byte) : Instr :=
  match r with
  | .a => .shrAImm imm
  | .b => .shrBImm imm
  | .c => .shrCImm imm
  | .d => .shrDImm imm

/-- ROL_r_IMM (REG_IMM8, R273) with register `r`. -/
def Instr.rolRegImm (r : Reg) (imm : Byte) : Instr :=
  match r with
  | .a => .rolAImm imm
  | .b => .rolBImm imm
  | .c => .rolCImm imm
  | .d => .rolDImm imm

/-- ROR_r_IMM (REG_IMM8, R274) with register `r`. -/
def Instr.rorRegImm (r : Reg) (imm : Byte) : Instr :=
  match r with
  | .a => .rorAImm imm
  | .b => .rorBImm imm
  | .c => .rorCImm imm
  | .d => .rorDImm imm

/-- REF_MAP (R166): the instruction whose kind is the reference byte `k` and whose operand bytes are `b1`, `b2`
(R161); none for the bytes of R167. The high nibble selects the family; the destination is in bits 3:2, the source or single register in bits 1:0
(R165). -/
def refInstr (k b1 b2 : Byte) : Option Instr :=
  let r := Reg.ofCode (k.extractLsb' 0 2)
  let dst := Reg.ofCode (k.extractLsb' 2 2)
  let imm8 := b1
  let imm16 := w16 b1 b2
  let low := (k.extractLsb' 0 4).toNat
  let group := (k.extractLsb' 2 2).toNat
  match (k.extractLsb' 4 4).toNat with
  | 0x0 =>
    match low with
    | 0 => some .nop
    | 1 => some .halt
    | 2 => some (.syscall imm8)
    | 3 => some .breakpoint
    | 4 => some .ei
    | 5 => some .di
    | 6 => some .iret
    | 7 => some .ret
    | 8 => some (.call imm16)
    | 9 => some (.jmp imm16)
    | 10 => some (.jz imm16)
    | 11 => some (.jnz imm16)
    | 12 => some (.jc imm16)
    | 13 => some (.jnc imm16)
    | 14 => some (.setSp imm16)
    | _ => none
  | 0x1 =>
    match group with
    | 0 => some (.pushReg r)
    | 1 => some (.popReg r)
    | 2 => some (.incReg r)
    | _ => some (.decReg r)
  | 0x2 =>
    match group with
    | 0 => some (.notReg r)
    | 1 => some (.movRegImm r imm8)
    | 2 => some (.movRegMem r imm16)
    | _ => some (.movMemReg r imm16)
  | 0x3 => some (.movRegReg dst r)
  | 0x4 => some (.addRegReg dst r)
  | 0x5 => some (.subRegReg dst r)
  | 0x6 => some (.andRegReg dst r)
  | 0x7 => some (.orRegReg dst r)
  | 0x8 => some (.xorRegReg dst r)
  | 0x9 => some (.cmpRegReg dst r)
  | 0xA => some (.testRegReg dst r)
  | 0xB =>
    match group with
    | 0 => some (.addRegImm r imm8)
    | 1 => some (.subRegImm r imm8)
    | 2 => some (.andRegImm r imm8)
    | _ => some (.orRegImm r imm8)
  | 0xC =>
    match group with
    | 0 => some (.xorRegImm r imm8)
    | 1 => some (.cmpRegImm r imm8)
    | 2 => some (.testRegImm r imm8)
    | _ => some (.shlRegImm r imm8)
  | 0xD =>
    match group with
    | 0 => some (.shrRegImm r imm8)
    | 1 => some (.rolRegImm r imm8)
    | 2 => some (.rorRegImm r imm8)
    | _ => none
  | 0xE =>
    match low with
    | 0 => some .coreCount
    | 1 => some .coreStatus
    | 2 => some .coreStart
    | 3 => some .coreHalt
    | 4 => some .coreSetPc
    | 5 => some .cpuCount
    | 6 => some .cpuStatus
    | 7 => some .cpuStart
    | 8 => some .cpuHalt
    | 9 => some .cpuSetPc
    | _ => none
  | _ => none

/-- The operand bytes of an instruction in the order they follow the opcode byte, low byte first (R161). -/
def Instr.operandBytes : Instr → List Byte
  | .nop => []
  | .halt => []
  | .syscall v => [v]
  | .breakpoint => []
  | .ei => []
  | .di => []
  | .iret => []
  | .ret => []
  | .call v => [loByte v, hiByte v]
  | .jmp v => [loByte v, hiByte v]
  | .jz v => [loByte v, hiByte v]
  | .jnz v => [loByte v, hiByte v]
  | .jc v => [loByte v, hiByte v]
  | .jnc v => [loByte v, hiByte v]
  | .setSp v => [loByte v, hiByte v]
  | .pushA => []
  | .pushB => []
  | .pushC => []
  | .pushD => []
  | .popA => []
  | .popB => []
  | .popC => []
  | .popD => []
  | .incA => []
  | .incB => []
  | .incC => []
  | .incD => []
  | .decA => []
  | .decB => []
  | .decC => []
  | .decD => []
  | .notA => []
  | .notB => []
  | .notC => []
  | .notD => []
  | .movAImm v => [v]
  | .movBImm v => [v]
  | .movCImm v => [v]
  | .movDImm v => [v]
  | .movAMem v => [loByte v, hiByte v]
  | .movBMem v => [loByte v, hiByte v]
  | .movCMem v => [loByte v, hiByte v]
  | .movDMem v => [loByte v, hiByte v]
  | .movMemA v => [loByte v, hiByte v]
  | .movMemB v => [loByte v, hiByte v]
  | .movMemC v => [loByte v, hiByte v]
  | .movMemD v => [loByte v, hiByte v]
  | .movAA => []
  | .movAB => []
  | .movAC => []
  | .movAD => []
  | .movBA => []
  | .movBB => []
  | .movBC => []
  | .movBD => []
  | .movCA => []
  | .movCB => []
  | .movCC => []
  | .movCD => []
  | .movDA => []
  | .movDB => []
  | .movDC => []
  | .movDD => []
  | .addAA => []
  | .addAB => []
  | .addAC => []
  | .addAD => []
  | .addBA => []
  | .addBB => []
  | .addBC => []
  | .addBD => []
  | .addCA => []
  | .addCB => []
  | .addCC => []
  | .addCD => []
  | .addDA => []
  | .addDB => []
  | .addDC => []
  | .addDD => []
  | .subAA => []
  | .subAB => []
  | .subAC => []
  | .subAD => []
  | .subBA => []
  | .subBB => []
  | .subBC => []
  | .subBD => []
  | .subCA => []
  | .subCB => []
  | .subCC => []
  | .subCD => []
  | .subDA => []
  | .subDB => []
  | .subDC => []
  | .subDD => []
  | .andAA => []
  | .andAB => []
  | .andAC => []
  | .andAD => []
  | .andBA => []
  | .andBB => []
  | .andBC => []
  | .andBD => []
  | .andCA => []
  | .andCB => []
  | .andCC => []
  | .andCD => []
  | .andDA => []
  | .andDB => []
  | .andDC => []
  | .andDD => []
  | .orAA => []
  | .orAB => []
  | .orAC => []
  | .orAD => []
  | .orBA => []
  | .orBB => []
  | .orBC => []
  | .orBD => []
  | .orCA => []
  | .orCB => []
  | .orCC => []
  | .orCD => []
  | .orDA => []
  | .orDB => []
  | .orDC => []
  | .orDD => []
  | .xorAA => []
  | .xorAB => []
  | .xorAC => []
  | .xorAD => []
  | .xorBA => []
  | .xorBB => []
  | .xorBC => []
  | .xorBD => []
  | .xorCA => []
  | .xorCB => []
  | .xorCC => []
  | .xorCD => []
  | .xorDA => []
  | .xorDB => []
  | .xorDC => []
  | .xorDD => []
  | .cmpAA => []
  | .cmpAB => []
  | .cmpAC => []
  | .cmpAD => []
  | .cmpBA => []
  | .cmpBB => []
  | .cmpBC => []
  | .cmpBD => []
  | .cmpCA => []
  | .cmpCB => []
  | .cmpCC => []
  | .cmpCD => []
  | .cmpDA => []
  | .cmpDB => []
  | .cmpDC => []
  | .cmpDD => []
  | .testAA => []
  | .testAB => []
  | .testAC => []
  | .testAD => []
  | .testBA => []
  | .testBB => []
  | .testBC => []
  | .testBD => []
  | .testCA => []
  | .testCB => []
  | .testCC => []
  | .testCD => []
  | .testDA => []
  | .testDB => []
  | .testDC => []
  | .testDD => []
  | .addAImm v => [v]
  | .addBImm v => [v]
  | .addCImm v => [v]
  | .addDImm v => [v]
  | .subAImm v => [v]
  | .subBImm v => [v]
  | .subCImm v => [v]
  | .subDImm v => [v]
  | .andAImm v => [v]
  | .andBImm v => [v]
  | .andCImm v => [v]
  | .andDImm v => [v]
  | .orAImm v => [v]
  | .orBImm v => [v]
  | .orCImm v => [v]
  | .orDImm v => [v]
  | .xorAImm v => [v]
  | .xorBImm v => [v]
  | .xorCImm v => [v]
  | .xorDImm v => [v]
  | .cmpAImm v => [v]
  | .cmpBImm v => [v]
  | .cmpCImm v => [v]
  | .cmpDImm v => [v]
  | .testAImm v => [v]
  | .testBImm v => [v]
  | .testCImm v => [v]
  | .testDImm v => [v]
  | .shlAImm v => [v]
  | .shlBImm v => [v]
  | .shlCImm v => [v]
  | .shlDImm v => [v]
  | .shrAImm v => [v]
  | .shrBImm v => [v]
  | .shrCImm v => [v]
  | .shrDImm v => [v]
  | .rolAImm v => [v]
  | .rolBImm v => [v]
  | .rolCImm v => [v]
  | .rolDImm v => [v]
  | .rorAImm v => [v]
  | .rorBImm v => [v]
  | .rorCImm v => [v]
  | .rorDImm v => [v]
  | .coreCount => []
  | .coreStatus => []
  | .coreStart => []
  | .coreHalt => []
  | .coreSetPc => []
  | .cpuCount => []
  | .cpuStatus => []
  | .cpuStart => []
  | .cpuHalt => []
  | .cpuSetPc => []

/-- The length of an instruction in bytes (R160). -/
def Instr.length (i : Instr) : Nat := 1 + i.operandBytes.length

/-- The length of the instructions whose kind is the reference byte `k`: the opcode byte alone fixes it (R160). -/
def kindLength (k : Byte) : Option Nat := (refInstr k 0#8 0#8).map Instr.length

/-- The reference byte of the kind OPCODE_MAP gives the opcode byte `b`, if it assigns one (R164). -/
def OpcodeMap.kindOf : OpcodeMap → Byte → Option Byte
  | [], b => some b
  | (x, k) :: m, b => if x = b then k else OpcodeMap.kindOf m b

/-- Why bytes are not an instruction. -/
inductive DecodeError where
  /-- OPCODE_MAP does not assign the opcode byte (R168, R210). -/
  | unknownOpcode (byte : Byte)
  /-- There are fewer bytes than the opcode byte's length asks for (the model's: memory never runs out of bytes, R115). -/
  | truncated
deriving DecidableEq, Repr

/-- The instruction at the head of a list of bytes, and the bytes after it (R160, R164). -/
def decode (m : OpcodeMap) : List Byte → Except DecodeError (Instr × List Byte)
  | [] => .error .truncated
  | b0 :: rest =>
    match m.kindOf b0 with
    | none => .error (.unknownOpcode b0)
    | some k =>
      match kindLength k, rest with
      | some 1, rest => (refInstr k 0#8 0#8).elim (.error (.unknownOpcode b0)) fun i => .ok (i, rest)
      | some 2, b1 :: rest => (refInstr k b1 0#8).elim (.error (.unknownOpcode b0)) fun i => .ok (i, rest)
      | some 3, b1 :: b2 :: rest => (refInstr k b1 b2).elim (.error (.unknownOpcode b0)) fun i => .ok (i, rest)
      | some _, _ => .error .truncated
      | none, _ => .error (.unknownOpcode b0)

/-- The opcode byte of an instruction under REF_MAP (R166), from the table's own bytes. -/
def Instr.code : Instr → Byte
  | .nop => 0x00#8
  | .halt => 0x01#8
  | .syscall _ => 0x02#8
  | .breakpoint => 0x03#8
  | .ei => 0x04#8
  | .di => 0x05#8
  | .iret => 0x06#8
  | .ret => 0x07#8
  | .call _ => 0x08#8
  | .jmp _ => 0x09#8
  | .jz _ => 0x0A#8
  | .jnz _ => 0x0B#8
  | .jc _ => 0x0C#8
  | .jnc _ => 0x0D#8
  | .setSp _ => 0x0E#8
  | .pushA => 0x10#8
  | .pushB => 0x11#8
  | .pushC => 0x12#8
  | .pushD => 0x13#8
  | .popA => 0x14#8
  | .popB => 0x15#8
  | .popC => 0x16#8
  | .popD => 0x17#8
  | .incA => 0x18#8
  | .incB => 0x19#8
  | .incC => 0x1A#8
  | .incD => 0x1B#8
  | .decA => 0x1C#8
  | .decB => 0x1D#8
  | .decC => 0x1E#8
  | .decD => 0x1F#8
  | .notA => 0x20#8
  | .notB => 0x21#8
  | .notC => 0x22#8
  | .notD => 0x23#8
  | .movAImm _ => 0x24#8
  | .movBImm _ => 0x25#8
  | .movCImm _ => 0x26#8
  | .movDImm _ => 0x27#8
  | .movAMem _ => 0x28#8
  | .movBMem _ => 0x29#8
  | .movCMem _ => 0x2A#8
  | .movDMem _ => 0x2B#8
  | .movMemA _ => 0x2C#8
  | .movMemB _ => 0x2D#8
  | .movMemC _ => 0x2E#8
  | .movMemD _ => 0x2F#8
  | .movAA => 0x30#8
  | .movAB => 0x31#8
  | .movAC => 0x32#8
  | .movAD => 0x33#8
  | .movBA => 0x34#8
  | .movBB => 0x35#8
  | .movBC => 0x36#8
  | .movBD => 0x37#8
  | .movCA => 0x38#8
  | .movCB => 0x39#8
  | .movCC => 0x3A#8
  | .movCD => 0x3B#8
  | .movDA => 0x3C#8
  | .movDB => 0x3D#8
  | .movDC => 0x3E#8
  | .movDD => 0x3F#8
  | .addAA => 0x40#8
  | .addAB => 0x41#8
  | .addAC => 0x42#8
  | .addAD => 0x43#8
  | .addBA => 0x44#8
  | .addBB => 0x45#8
  | .addBC => 0x46#8
  | .addBD => 0x47#8
  | .addCA => 0x48#8
  | .addCB => 0x49#8
  | .addCC => 0x4A#8
  | .addCD => 0x4B#8
  | .addDA => 0x4C#8
  | .addDB => 0x4D#8
  | .addDC => 0x4E#8
  | .addDD => 0x4F#8
  | .subAA => 0x50#8
  | .subAB => 0x51#8
  | .subAC => 0x52#8
  | .subAD => 0x53#8
  | .subBA => 0x54#8
  | .subBB => 0x55#8
  | .subBC => 0x56#8
  | .subBD => 0x57#8
  | .subCA => 0x58#8
  | .subCB => 0x59#8
  | .subCC => 0x5A#8
  | .subCD => 0x5B#8
  | .subDA => 0x5C#8
  | .subDB => 0x5D#8
  | .subDC => 0x5E#8
  | .subDD => 0x5F#8
  | .andAA => 0x60#8
  | .andAB => 0x61#8
  | .andAC => 0x62#8
  | .andAD => 0x63#8
  | .andBA => 0x64#8
  | .andBB => 0x65#8
  | .andBC => 0x66#8
  | .andBD => 0x67#8
  | .andCA => 0x68#8
  | .andCB => 0x69#8
  | .andCC => 0x6A#8
  | .andCD => 0x6B#8
  | .andDA => 0x6C#8
  | .andDB => 0x6D#8
  | .andDC => 0x6E#8
  | .andDD => 0x6F#8
  | .orAA => 0x70#8
  | .orAB => 0x71#8
  | .orAC => 0x72#8
  | .orAD => 0x73#8
  | .orBA => 0x74#8
  | .orBB => 0x75#8
  | .orBC => 0x76#8
  | .orBD => 0x77#8
  | .orCA => 0x78#8
  | .orCB => 0x79#8
  | .orCC => 0x7A#8
  | .orCD => 0x7B#8
  | .orDA => 0x7C#8
  | .orDB => 0x7D#8
  | .orDC => 0x7E#8
  | .orDD => 0x7F#8
  | .xorAA => 0x80#8
  | .xorAB => 0x81#8
  | .xorAC => 0x82#8
  | .xorAD => 0x83#8
  | .xorBA => 0x84#8
  | .xorBB => 0x85#8
  | .xorBC => 0x86#8
  | .xorBD => 0x87#8
  | .xorCA => 0x88#8
  | .xorCB => 0x89#8
  | .xorCC => 0x8A#8
  | .xorCD => 0x8B#8
  | .xorDA => 0x8C#8
  | .xorDB => 0x8D#8
  | .xorDC => 0x8E#8
  | .xorDD => 0x8F#8
  | .cmpAA => 0x90#8
  | .cmpAB => 0x91#8
  | .cmpAC => 0x92#8
  | .cmpAD => 0x93#8
  | .cmpBA => 0x94#8
  | .cmpBB => 0x95#8
  | .cmpBC => 0x96#8
  | .cmpBD => 0x97#8
  | .cmpCA => 0x98#8
  | .cmpCB => 0x99#8
  | .cmpCC => 0x9A#8
  | .cmpCD => 0x9B#8
  | .cmpDA => 0x9C#8
  | .cmpDB => 0x9D#8
  | .cmpDC => 0x9E#8
  | .cmpDD => 0x9F#8
  | .testAA => 0xA0#8
  | .testAB => 0xA1#8
  | .testAC => 0xA2#8
  | .testAD => 0xA3#8
  | .testBA => 0xA4#8
  | .testBB => 0xA5#8
  | .testBC => 0xA6#8
  | .testBD => 0xA7#8
  | .testCA => 0xA8#8
  | .testCB => 0xA9#8
  | .testCC => 0xAA#8
  | .testCD => 0xAB#8
  | .testDA => 0xAC#8
  | .testDB => 0xAD#8
  | .testDC => 0xAE#8
  | .testDD => 0xAF#8
  | .addAImm _ => 0xB0#8
  | .addBImm _ => 0xB1#8
  | .addCImm _ => 0xB2#8
  | .addDImm _ => 0xB3#8
  | .subAImm _ => 0xB4#8
  | .subBImm _ => 0xB5#8
  | .subCImm _ => 0xB6#8
  | .subDImm _ => 0xB7#8
  | .andAImm _ => 0xB8#8
  | .andBImm _ => 0xB9#8
  | .andCImm _ => 0xBA#8
  | .andDImm _ => 0xBB#8
  | .orAImm _ => 0xBC#8
  | .orBImm _ => 0xBD#8
  | .orCImm _ => 0xBE#8
  | .orDImm _ => 0xBF#8
  | .xorAImm _ => 0xC0#8
  | .xorBImm _ => 0xC1#8
  | .xorCImm _ => 0xC2#8
  | .xorDImm _ => 0xC3#8
  | .cmpAImm _ => 0xC4#8
  | .cmpBImm _ => 0xC5#8
  | .cmpCImm _ => 0xC6#8
  | .cmpDImm _ => 0xC7#8
  | .testAImm _ => 0xC8#8
  | .testBImm _ => 0xC9#8
  | .testCImm _ => 0xCA#8
  | .testDImm _ => 0xCB#8
  | .shlAImm _ => 0xCC#8
  | .shlBImm _ => 0xCD#8
  | .shlCImm _ => 0xCE#8
  | .shlDImm _ => 0xCF#8
  | .shrAImm _ => 0xD0#8
  | .shrBImm _ => 0xD1#8
  | .shrCImm _ => 0xD2#8
  | .shrDImm _ => 0xD3#8
  | .rolAImm _ => 0xD4#8
  | .rolBImm _ => 0xD5#8
  | .rolCImm _ => 0xD6#8
  | .rolDImm _ => 0xD7#8
  | .rorAImm _ => 0xD8#8
  | .rorBImm _ => 0xD9#8
  | .rorCImm _ => 0xDA#8
  | .rorDImm _ => 0xDB#8
  | .coreCount => 0xE0#8
  | .coreStatus => 0xE1#8
  | .coreStart => 0xE2#8
  | .coreHalt => 0xE3#8
  | .coreSetPc => 0xE4#8
  | .cpuCount => 0xE5#8
  | .cpuStatus => 0xE6#8
  | .cpuStart => 0xE7#8
  | .cpuHalt => 0xE8#8
  | .cpuSetPc => 0xE9#8

/-- The bytes of an instruction under REF_MAP. -/
def encode (i : Instr) : List Byte := i.code :: i.operandBytes

/-- Every byte, rising. -/
def allBytes : List Byte := (List.range 256).map (BitVec.ofNat 8)

/-- The bytes of an instruction under an OPCODE_MAP: the lowest opcode byte of its kind, then the operand bytes; none
where the map assigns its kind no byte (M2). -/
def encodeWith (m : OpcodeMap) (i : Instr) : Option (List Byte) :=
  (allBytes.find? fun b => m.kindOf b == some i.code).map (· :: i.operandBytes)

/-- The instruction the decoder reads under REF_MAP from the instruction whose bits are `w` (bit 0 the least significant
bit of the first byte), every bit above `nbits` being 0. The bytes are laid out first byte first (R160, R161). -/
def tableBytes (nbits w : Nat) : List Byte :=
  let v := w % 2 ^ nbits
  [BitVec.ofNat 8 v, BitVec.ofNat 8 (v / 256), BitVec.ofNat 8 (v / 65536)]

/-- The decoder's answer for a row of the opcode table (`tableBytes` lays its bits out). -/
def decodeTableWord (nbits w : Nat) : Option Instr :=
  match decode [] (tableBytes nbits w) with
  | .ok (i, _) => some i
  | .error _ => none

end Sys2Proof
end

