-- ==== Sys2Proof/Machine/State.lean ====
section
/-! DEFINITION. The state of the whole computer as plain data (10_state.md), the host actions (R492), the reasons a step
stops (60_exceptions.md section 1), and the machine at launch (R540). -/

namespace Sys2Proof.Machine

open Sys2Proof

/-- The storage behind ROM and RAM (R49, R50): the bytes that are not 0, by address, addresses strictly rising. A byte
that is not listed reads 0 (R49, R50). The I/O window has no storage (R101). -/
abbrev Memory := List Host.Cell

/-- The canonical form: strictly rising addresses below the I/O window, and no listed 0. -/
abbrev Memory.wf (m : Memory) : Prop :=
  m.Pairwise (fun x y => x.1 < y.1) ∧ ∀ x ∈ m, x.1 < ioBase.toNat ∧ x.2 ≠ 0#8

/-- One core: its register file (R31-R41) and its control state (R42). -/
structure CoreState where
  /-- General register A (R31). -/
  a : Byte
  /-- General register B (R31). -/
  b : Byte
  /-- General register C (R31). -/
  c : Byte
  /-- General register D (R31). -/
  d : Byte
  /-- The instruction register IR (R32). -/
  ir : Byte
  /-- FLAGS: carry in bit 0, zero in bit 1 (R33). -/
  flags : Byte
  /-- The program counter (R37). -/
  pc : Word
  /-- The stack pointer, the address of the next free byte (R38). -/
  sp : Word
  /-- The core's run state (R42). -/
  halted : Bool
  /-- The core's interrupt enable (R42, D12). -/
  ie : Bool
  /-- The "inside handler" flag (R42). -/
  inHandler : Bool
  /-- The recorded breakpoint (R42, D16). -/
  currentBreakpoint : Option Word
  /-- The fetch-decode-execute core-cycles run so far (R42, D40). -/
  cycleCount : Nat
deriving DecidableEq, Repr

/-- A core at reset (R41, R43): all zero but PC, `ie` and the parameter CORE_RESET_HALTED. -/
def CoreState.atReset (vector : Word) (halted : Bool) : CoreState where
  a := 0#8
  b := 0#8
  c := 0#8
  d := 0#8
  ir := 0#8
  flags := 0#8
  pc := vector
  sp := 0#16
  halted := halted
  ie := ieReset
  inHandler := false
  currentBreakpoint := none
  cycleCount := 0

/-- The entries of an L1 cache, oldest first: a RAM address and a byte each (R47). -/
abbrev Cache := List (Word × Byte)

/-- One CPU (R45). NUM_CORES is the length of `cores` (R30). -/
structure CpuState where
  /-- Whether the CPU is halted as a unit (R45, D23). -/
  halted : Bool
  /-- Whether a breakpoint or the host has paused it (R45). -/
  paused : Bool
  /-- The L1 cache its cores share (R47). -/
  cache : Cache
  /-- Its cores, by index (R30). -/
  cores : List CoreState
deriving DecidableEq, Repr

/-- The core an IRQ is routed to, as two 4-bit indices (R51, D48). -/
structure Route where
  /-- The CPU index. -/
  cpu : BitVec 4
  /-- The core index within the CPU. -/
  core : BitVec 4
deriving DecidableEq, Repr

/-- The number of an IRQ line, 0 to 7 (R7). -/
abbrev Irq := Fin 8

/-- The interrupt controller (R51). -/
structure IcState where
  /-- Bit i enables IRQ i (R51, R468). -/
  enabled : Byte
  /-- Bit i says that IRQ i is pending (R51, R475). -/
  pending : Byte
  /-- Bit i masks IRQ i (R51, R471). -/
  mask : Byte
  /-- The address of the handler (R51, R472). -/
  handlerAddr : Word
  /-- The route of each IRQ, if it has one (R51, R475). -/
  route : Vector (Option Route) 8
  /-- The register of the layout SELECT_THEN_NIBBLES (R473); the reference layout does not use it. -/
  routeSelect : BitVec 3
deriving DecidableEq, Repr

/-- The interrupt controller at reset (R53, R540). -/
def IcState.atReset : IcState where
  enabled := 0#8
  pending := 0#8
  mask := 0#8
  handlerAddr := 0#16
  route := Vector.replicate 8 none
  routeSelect := 0#3

/-- The name of a core: its CPU's index, and its index within the CPU (R488). -/
structure CoreId where
  /-- The CPU index, `self.cpu` of R10. -/
  cpu : Nat
  /-- The core index within the CPU, `self.core` of R10. -/
  core : Nat
deriving DecidableEq, Repr

/-- What the host can see of a run (R12, R214, R460), and the writes its devices receive (R107). -/
inductive Event where
  /-- logError: a byte OPCODE_MAP does not assign was executed (R210). -/
  | unknownOpcode (cpu core : Nat) (pc : Word) (byte : Byte)
  /-- warn: a write to ROM was dropped (R463). -/
  | romWrite (addr : Word) (value : Byte)
  /-- warn: an IRQ number above 7 (R464). -/
  | invalidIrq (irq : Nat)
  /-- warn: a routing write for an IRQ that was never requested (R465). -/
  | routeUnrequested (irq : Irq) (port : Nat) (value : Byte)
  /-- A port write delivered to a host device (R107). -/
  | deviceWrite (slot port : Nat) (value : Byte)
deriving DecidableEq, Repr

/-- What the host may do between CPU-cycles (R492). Loading happens at launch only (R123): it is `State.launch`. -/
inductive HostAction where
  /-- One CPU-cycle of CPU `cpu` (R200). -/
  | tick (cpu : Nat)
  /-- One CPU-cycle of CPU `cpu` even if it is paused (D15). -/
  | debugStep (cpu : Nat)
  /-- Pause a CPU. -/
  | pause (cpu : Nat)
  /-- Resume a CPU. -/
  | resume (cpu : Nat)
  /-- Make the breakpoint set these addresses (R48). -/
  | setBreakpoints (addrs : List Word)
  /-- Request an interrupt (R475). -/
  | requestInterrupt (irq : Nat)
deriving DecidableEq, Repr

/-- The computer (R30). NUM_CPUS is the length of `cpus`. -/
structure State where
  /-- The parameters of R7, which no step changes (R103). -/
  cfg : Config
  /-- The CPUs, by index (R30). -/
  cpus : List CpuState
  /-- ROM and RAM storage (R49, R50). -/
  mem : Memory
  /-- The global breakpoint set (R48), strictly rising. -/
  breakpoints : List Word
  /-- The interrupt controller (R51). -/
  ic : IcState
  /-- The warnings, errors and device writes so far, oldest first (R12, R214). -/
  events : List Event
  /-- The model's own: the executing core, the spec's `self` (R10, log 8). -/
  self : CoreId
  /-- The model's own: the host actions to come, oldest first (R492, log 2). -/
  host : List HostAction
  /-- The model's own: the CPU the clock ticks next once `host` is empty (D25, log 2). -/
  turn : Nat
  /-- The model's own: how many free values have been drawn: device answers and services (D36, D17, log 5, log 10). -/
  oracleDraws : Nat
deriving DecidableEq, Repr

/-- Why the machine stops for good. -/
inductive Fault where
  /-- `raise Fatal(ZeroHandler)` (R462): an interrupt entry found `handlerAddr` to be 0. Raised by `interruptEntry` only.
  `final` is the state the machine stops in: context pushed, IRQ acknowledged, PC not yet changed (R481, D43). Safe: the
  spec stops here too (log 9). -/
  | zeroHandler (irq : Irq) (cpu core : Nat) (final : State)
deriving DecidableEq, Repr

/-- What a multi-core operation addresses (R420). -/
inductive TargetKind where
  /-- A core of the executing core's CPU. -/
  | core
  /-- A CPU. -/
  | cpu
deriving DecidableEq, Repr

/-- Why the model gives an execution no meaning (R466). -/
inductive Refusal where
  /-- An arm of `exec` that has no meaning yet. No arm of this model answers with it. Safe. -/
  | notModelled (mnemonic : String)
  /-- `refuse(SyscallOther(n))` (R382, R466, D17): SYSCALL with an operand other than 0 that SYSCALL_OTHER refuses. Raised by SYSCALL only. Safe: the
  spec refuses here too (log 10). -/
  | syscallOther (n : Byte) (cpu core : Nat) (pc : Word)
  /-- `refuse(TargetOutOfRange(kind, t))` (R420, R466, D21): a multi-core operation names a unit that does not exist.
  Raised by the multi-core operations only. Safe: the spec refuses here too (log 10). -/
  | targetOutOfRange (kind : TargetKind) (target : Nat)
deriving DecidableEq, Repr

/-- One CPU as the machine is built: CPU_RESET_HALTED, and CORE_RESET_HALTED for each of its cores (R7, R43, R46). -/
structure CpuShape where
  /-- CPU_RESET_HALTED of this CPU. -/
  halted : Bool
  /-- CORE_RESET_HALTED of each core; NUM_CORES is its length. -/
  coresHalted : List Bool
deriving DecidableEq, Repr

/-- The launch (R540): every piece of state at the value its rule gives, for parameters `cfg`, CPUs and cores `shape`,
host-loaded storage `image` (ROM_IMAGE and initial RAM, R123) and the host's breakpoint set (R48, D52). -/
def State.launch (cfg : Config) (shape : List CpuShape) (image : Memory) (breakpoints : List Word) : State where
  cfg := cfg
  cpus := shape.map fun p =>
    { halted := p.halted, paused := false, cache := [], cores := p.coresHalted.map (CoreState.atReset cfg.resetVector) }
  mem := image
  breakpoints := breakpoints
  ic := IcState.atReset
  events := []
  self := ⟨0, 0⟩
  host := []
  turn := 0
  oracleDraws := 0

/-- The reference machine of R7: one CPU with two cores, of which only core 0 runs at reset (D26). -/
def referenceShape : List CpuShape := [{ halted := false, coresHalted := [false, true] }]

/-- The machine right after reset, with the reference parameters of R7 (log 3) and nothing loaded (log 7). -/
def State.reset : State := State.launch Config.reference referenceShape [] []

end Sys2Proof.Machine
end

