-- ==== Sys2Proof/Machine/Ops.lean ====
section
/-! DEFINITION. The named operations of the machine: storage, regions, caches, cores and CPUs by index, the interrupt
controller, the bus, the stack, taking an interrupt and returning from it. An access is done by the executing core
`State.self` unless an argument says otherwise. -/

namespace Sys2Proof.Machine

open Sys2Proof

/-- What a step, an instruction or an interrupt entry answers. -/
abbrev Result := Host.Outcome State Fault Refusal

/-! ## Storage -/

/-- The byte stored at an address; 0 if none was (R49, R50). -/
def Memory.read : Memory → Nat → Byte
  | [], _ => 0#8
  | (x, w) :: m, a => if x = a then w else Memory.read m a

/-- Storage with one byte changed, in canonical form: storing 0 removes the entry. -/
def Memory.write : Memory → Nat → Byte → Memory
  | [], a, v => if v = 0#8 then [] else [(a, v)]
  | (x, w) :: m, a, v =>
    if a < x then (if v = 0#8 then (x, w) :: m else (a, v) :: (x, w) :: m)
    else if a = x then (if v = 0#8 then m else (a, v) :: m)
    else (x, w) :: Memory.write m a v

/-- Storage with the bytes at `lo` to `hi` (both included) made 0. -/
def Memory.clear (lo hi : Nat) (m : Memory) : Memory :=
  m.filter fun x => !(decide (lo ≤ x.1) && decide (x.1 ≤ hi))

/-! ## Regions of the address space -/

/-- What an address reaches (R101, R104). -/
inductive Region where
  /-- Read-only storage. -/
  | rom
  /-- Storage behind the caches. -/
  | ram
  /-- Port `port` of I/O slot `slot`. -/
  | io (slot port : Nat)
deriving DecidableEq, Repr

/-- The region of an address, ROM first, then I/O, as R105 and R106 test them (R101, R104). -/
def regionOf (cfg : Config) (a : Word) : Region :=
  if a ≤ cfg.romEnd then .rom
  else if ioBase ≤ a then .io ((a.toNat - ioBase.toNat) / 16) ((a.toNat - ioBase.toNat) % 16)
  else .ram

/-! ## The L1 cache -/

/-- The byte a cache holds for an address (R105). -/
def Cache.lookup : Cache → Word → Option Byte
  | [], _ => none
  | (x, v) :: e, a => if x = a then some v else Cache.lookup e a

/-- `cacheInsert`: append, then drop the oldest entries past CACHE_MAX (R109). -/
def Cache.insert (e : Cache) (a : Word) (v : Byte) : Cache :=
  (e ++ [(a, v)]).drop ((e ++ [(a, v)]).length - cacheMax)

/-- `cacheInvalidate`: remove the entry of an address, the others keeping their order (R110). -/
def Cache.invalidate (e : Cache) (a : Word) : Cache := e.filter fun x => !decide (x.1 = a)

/-! ## CPUs and cores by index -/

/-- What an index past the last core reads as: a halted core, all zero (the model's, log 11). -/
def CoreState.absent : CoreState := CoreState.atReset 0#16 true

/-- What an index past the last CPU reads as: a halted CPU with no core (the model's, log 11). -/
def CpuState.absent : CpuState where
  halted := true
  paused := false
  cache := []
  cores := []

/-- `cpu(c)` (R10). -/
def State.cpu (s : State) (c : Nat) : CpuState := s.cpus[c]?.getD CpuState.absent

/-- `core(c,k)` (R10). -/
def State.core (s : State) (id : CoreId) : CoreState := (s.cpu id.cpu).cores[id.core]?.getD CoreState.absent

/-- The computer has this core. -/
abbrev State.hasCore (s : State) (id : CoreId) : Prop := id.core < (s.cpu id.cpu).cores.length

/-- The computer with one CPU changed. -/
def State.modifyCpu (s : State) (c : Nat) (f : CpuState → CpuState) : State := { s with cpus := s.cpus.modify c f }

/-- A CPU with one core changed. -/
def CpuState.modifyCore (p : CpuState) (k : Nat) (f : CoreState → CoreState) : CpuState :=
  { p with cores := p.cores.modify k f }

/-- The computer with one core changed. -/
def State.modifyCore (s : State) (id : CoreId) (f : CoreState → CoreState) : State :=
  s.modifyCpu id.cpu fun p => p.modifyCore id.core f

/-- The executing core's registers and control state, the spec's `self` (R10). -/
def State.me (s : State) : CoreState := s.core s.self

/-- The computer with the executing core changed. -/
def State.updMe (s : State) (f : CoreState → CoreState) : State := s.modifyCore s.self f

/-- The computer with another core executing. -/
def State.focus (s : State) (id : CoreId) : State := { s with self := id }

/-- NUM_CPUS (R7). -/
def State.numCpus (s : State) : Nat := s.cpus.length

/-- NUM_CORES of the executing core's CPU (R7). -/
def State.numCores (s : State) : Nat := (s.cpu s.self.cpu).cores.length

/-- Append a warning, an error or a device write to what the host sees (R12). -/
def State.log (s : State) (e : Event) : State := { s with events := s.events ++ [e] }

/-! ## The interrupt controller -/

/-- The IRQ line whose number is the low three bits of `n`. -/
def irqOf (n : Nat) : Irq := ⟨n % 8, Nat.mod_lt n (by decide)⟩

/-- The byte whose bit `i` alone is set. -/
def irqBit (i : Irq) : Byte := 1#8 <<< i.val

/-- `acknowledge(i)`: clear the pending bit, nothing else (R476). -/
def IcState.acknowledge (ic : IcState) (i : Irq) : IcState := { ic with pending := ic.pending &&& ~~~(irqBit i) }

/-- The interrupt controller with one route assigned. -/
def IcState.setRoute (ic : IcState) (i : Irq) (r : Route) : IcState :=
  { ic with route := ic.route.set i.val (some r) i.isLt }

/-- A read of interrupt controller port `port`; no port read has a side effect (R467-R474). -/
def IcState.readPort (ic : IcState) (port : Nat) : Byte :=
  match port with
  | 0 => ic.enabled
  | 1 => ic.pending &&& ~~~ic.mask
  | 3 => ic.mask
  | 4 => loByte ic.handlerAddr
  | 5 => hiByte ic.handlerAddr
  | _ => 0#8

/-- A write to routing port 6 or 7 under the layout IRQ_NIBBLE_PER_PORT (R473). -/
def State.routeByNibble (s : State) (port : Nat) (v : Byte) : State :=
  let n := (v.extractLsb' 4 4).toNat
  if n < 8 then
    match s.ic.route[irqOf n] with
    | none => s.log (.routeUnrequested (irqOf n) port v)
    | some r =>
      if port = 6 then { s with ic := s.ic.setRoute (irqOf n) { r with cpu := v.extractLsb' 0 4 } }
      else { s with ic := s.ic.setRoute (irqOf n) { r with core := v.extractLsb' 0 4 } }
  else s.log (.invalidIrq n)

/-- A write to routing port 6 or 7 under the layout SELECT_THEN_NIBBLES (R473). -/
def State.routeBySelect (s : State) (port : Nat) (v : Byte) : State :=
  if port = 6 then { s with ic := { s.ic with routeSelect := v.extractLsb' 0 3 } }
  else
    match s.ic.route[irqOf s.ic.routeSelect.toNat] with
    | none => s.log (.routeUnrequested (irqOf s.ic.routeSelect.toNat) port v)
    | some _ =>
      { s with ic := s.ic.setRoute (irqOf s.ic.routeSelect.toNat) { cpu := v.extractLsb' 4 4, core := v.extractLsb' 0 4 } }

/-- A write to routing port 6 or 7 (R473). -/
def State.writeRoute (s : State) (port : Nat) (v : Byte) : State :=
  match s.cfg.routePorts with
  | .irqNibblePerPort => s.routeByNibble port v
  | .selectThenNibbles => s.routeBySelect port v

/-- A write to interrupt controller port `port`; writes to port 1 and to ports 8 to 15 are ignored (R467-R474). -/
def State.writeIcPort (s : State) (port : Nat) (v : Byte) : State :=
  match port with
  | 0 => { s with ic := { s.ic with enabled := v } }
  | 2 => { s with ic := s.ic.acknowledge (irqOf v.toNat) }
  | 3 => { s with ic := { s.ic with mask := v } }
  | 4 => { s with ic := { s.ic with handlerAddr := (s.ic.handlerAddr &&& 0xFF00#16) ||| v.setWidth 16 } }
  | 5 => { s with ic := { s.ic with handlerAddr := (s.ic.handlerAddr &&& 0x00FF#16) ||| (v.setWidth 16 <<< 8) } }
  | 6 => s.writeRoute 6 v
  | 7 => s.writeRoute 7 v
  | _ => s

/-- `requestInterrupt(irq)` (R475). -/
def State.requestInterrupt (s : State) (irq : Nat) : State :=
  if irq < 8 then
    let ic := { s.ic with pending := s.ic.pending ||| irqBit (irqOf irq) }
    match ic.route[irqOf irq] with
    | none => { s with ic := ic.setRoute (irqOf irq) { cpu := 0#4, core := 0#4 } }
    | some _ => { s with ic := ic }
  else s.log (.invalidIrq irq)

/-- `pending & enabled & ~mask` (R477). -/
def IcState.active (ic : IcState) : Byte := ic.pending &&& ic.enabled &&& ~~~ic.mask

/-- The route of IRQ `i` lets core `id` take it (R477). -/
def IcState.routesTo (ic : IcState) (id : CoreId) (i : Irq) : Bool :=
  match ic.route[i] with
  | none => true
  | some r => decide (r.cpu.toNat = id.cpu) && decide (r.core.toNat = id.core)

/-- IRQ `i` is deliverable to core `id` (R477). -/
def IcState.deliverable (ic : IcState) (id : CoreId) (i : Irq) : Bool := ic.active.getLsbD i.val && ic.routesTo id i

/-- The IRQ lines, highest priority first (R478). -/
def irqLines : List Irq := [0, 1, 2, 3, 4, 5, 6, 7]

/-- `selectIrq(c, k)` (R478). -/
def State.selectIrq (s : State) (id : CoreId) : Option Irq :=
  match s.cfg.irqSelect with
  | .filterThenLowest => irqLines.find? fun i => s.ic.deliverable id i
  | .lowestThenRoute =>
    (irqLines.find? fun i => s.ic.active.getLsbD i.val).filter fun i => s.ic.routesTo id i

/-! ## The bus -/

/-- A free value is drawn (log 5, log 10). -/
def State.drawn (s : State) : State := { s with oracleDraws := s.oracleDraws + 1 }

/-- `slotRead(s, q)` (R107): a byte, and the machine after the read. A host device's answer is a free value (D36). -/
def State.slotRead (s : State) (slot port : Nat) : Byte × State :=
  if slot = s.cfg.icSlot then (s.ic.readPort port, s)
  else if slot ∈ s.cfg.hostDevices then
    (Config.deviceAnswer s.oracleDraws slot port, s.drawn)
  else (s.cfg.emptySlotRead, s)

/-- `slotWrite(s, q, v)` (R107): a host device's write is an event, a write to an empty slot is dropped. -/
def State.slotWrite (s : State) (slot port : Nat) (v : Byte) : State :=
  if slot = s.cfg.icSlot then s.writeIcPort port v
  else if slot ∈ s.cfg.hostDevices then s.log (.deviceWrite slot port v)
  else s

/-- A RAM read by CPU `c`: its cache's byte, or the stored byte, which then enters the cache (R105). -/
def State.ramRead (s : State) (c : Nat) (a : Word) : Byte × State :=
  match (s.cpu c).cache.lookup a with
  | some v => (v, s)
  | none =>
    (s.mem.read a.toNat, s.modifyCpu c fun p => { p with cache := p.cache.insert a (s.mem.read a.toNat) })

/-- The caches a RAM write by CPU `c` invalidates (R110). -/
def State.invalidate (s : State) (c : Nat) (a : Word) : State :=
  match s.cfg.invalidateScope with
  | .ownCpu => s.modifyCpu c fun p => { p with cache := p.cache.invalidate a }
  | .allCpus => { s with cpus := s.cpus.map fun p => { p with cache := p.cache.invalidate a } }

/-- `MemRead(addr, 1)` by a core of CPU `c` (R105): the byte, and the machine after the read. -/
def State.busRead (s : State) (c : Nat) (a : Word) : Byte × State :=
  match regionOf s.cfg a with
  | .rom => (s.mem.read a.toNat, s)
  | .io slot port => s.slotRead slot port
  | .ram => s.ramRead c a

/-- `MemWrite(addr, 1, v)` by a core of CPU `c` (R106). -/
def State.busWrite (s : State) (c : Nat) (a : Word) (v : Byte) : State :=
  match regionOf s.cfg a with
  | .rom => s.log (.romWrite a v)
  | .io slot port => s.slotWrite slot port v
  | .ram => State.invalidate { s with mem := s.mem.write a.toNat v } c a

/-- `MemRead` by the executing core (R11, R105). -/
def State.memRead (s : State) (a : Word) : Byte × State := s.busRead s.self.cpu a

/-- `MemWrite` by the executing core (R11, R106). -/
def State.memWrite (s : State) (a : Word) (v : Byte) : State := s.busWrite s.self.cpu a v

/-- `n` byte reads at rising addresses, modulo 65536, one after the other (R108, R115, R116). -/
def State.memReadBytes : Nat → Word → State → List Byte × State
  | 0, _, s => ([], s)
  | n + 1, a, s =>
    let first := s.memRead a
    let others := State.memReadBytes n (a + 1) first.2
    (first.1 :: others.1, others.2)

/-- `cacheClearAll()` (R111). -/
def State.clearCaches (s : State) : State := { s with cpus := s.cpus.map fun p => { p with cache := [] } }

/-- The RAM clear of SYSCALL 0: RAM[PROGRAM_START .. PROGRAM_END] becomes 0 in storage. ROM and I/O addresses are not RAM
and stay (R382, D19, log 12). -/
def State.clearProgram (s : State) : State :=
  { s with
    mem := s.mem.clear (max s.cfg.programStart.toNat (s.cfg.romEnd.toNat + 1))
      (min s.cfg.programEnd.toNat (ioBase.toNat - 1)) }

/-! ## The stack -/

/-- `push8(v)`: write at `sp`, then decrement it (R300). -/
def State.push8 (s : State) (v : Byte) : State := (s.memWrite s.me.sp v).updMe fun m => { m with sp := m.sp - 1 }

/-- The first half of `pop8()`: increment `sp` (R301). -/
def State.incSp (s : State) : State := s.updMe fun m => { m with sp := m.sp + 1 }

/-- `pop8()`: increment `sp`, then read at it (R301). -/
def State.pop8 (s : State) : Byte × State := s.incSp.memRead s.incSp.me.sp

/-! ## Taking an interrupt, and returning from it -/

/-- The context an interrupt entry pushes, in the entry's order: FLAGS, PC high, PC low (R481). -/
def State.pushContext (s : State) (m : CoreState) : State :=
  ((s.memWrite m.sp m.flags).memWrite (m.sp - 1) (hiByte m.pc)).memWrite (m.sp - 2) (loByte m.pc)

/-- `interruptEntry` up to its check of the handler address (R481): interrupts off, inside a handler, the context pushed,
`sp` moved by 3 in one update, the IRQ acknowledged. -/
def State.enterInterrupt (s : State) (i : Irq) : State :=
  let masked := s.updMe fun m => { m with ie := false, inHandler := true }
  let pushed := (masked.pushContext s.me).updMe fun m => { m with sp := s.me.sp - 3 }
  { pushed with ic := pushed.ic.acknowledge i }

/-- `interruptEntry(c, k, i)` by the executing core (R481): `enterInterrupt`, then Fatal ZeroHandler if the handler
address is 0 (R462), else PC becomes the handler address. -/
def interruptEntry (i : Irq) (s : State) : Result :=
  let t := s.enterInterrupt i
  if t.ic.handlerAddr = 0#16 then .fault (.zeroHandler i s.self.cpu s.self.core t)
  else .next (t.updMe fun m => { m with pc := t.ic.handlerAddr })

/-- The return from an interrupt (R348): pop PC low, PC high and FLAGS, then write PC and all of FLAGS, enable interrupts
and leave the handler. -/
def interruptReturn (s : State) : State :=
  let lo := s.pop8
  let hi := lo.2.pop8
  let fl := hi.2.pop8
  fl.2.updMe fun m => { m with pc := w16 lo.1 hi.1, flags := fl.1, ie := true, inHandler := false }

end Sys2Proof.Machine
end

