-- ==== Sys2Proof/Machine/Flags.lean ====
section
/-! DEFINITION. FLAGS (R33, R34) and the ALU functions (R240-R252). The ALU writes no state (R240). -/

namespace Sys2Proof.Machine

open Sys2Proof

/-- What an ALU function answers: an 8-bit result, zero and carry (R240). -/
structure AluResult where
  /-- The masked result. -/
  result : Byte
  /-- Whether the masked result is 0 (D5). -/
  z : Bool
  /-- The carry. -/
  c : Bool
deriving DecidableEq, Repr

/-- A result and its carry; zero is set exactly when the masked result is 0 (R240, D5). -/
def aluResult (r : Byte) (c : Bool) : AluResult := { result := r, z := decide (r = 0#8), c := c }

/-- `alu_add` (R241). -/
def aluAdd (a b : Byte) : AluResult := aluResult (BitVec.ofNat 8 (a.toNat + b.toNat)) (decide (255 < a.toNat + b.toNat))

/-- `alu_sub`, and the flags of CMP (R242). The carry is the borrow. -/
def aluSub (a b : Byte) : AluResult := aluResult (a - b) (decide (a.toNat < b.toNat))

/-- `alu_and`, and the flags of TEST (R243). -/
def aluAnd (a b : Byte) : AluResult := aluResult (a &&& b) false

/-- `alu_or` (R244). -/
def aluOr (a b : Byte) : AluResult := aluResult (a ||| b) false

/-- `alu_xor` (R245). -/
def aluXor (a b : Byte) : AluResult := aluResult (a ^^^ b) false

/-- `alu_inc` (R246). -/
def aluInc (a : Byte) : AluResult := aluResult (a + 1) false

/-- `alu_dec` (R247). -/
def aluDec (a : Byte) : AluResult := aluResult (a - 1) false

/-- `alu_not` (R248, D6). -/
def aluNot (a : Byte) : AluResult := aluResult (~~~a) false

/-- A value and a carry bit, as the loops of R249-R252 carry them. -/
abbrev Shifting := Byte × Bool

/-- One iteration of `alu_shl`: the carry is bit 7 before the shift (R249). -/
def shlOnce (p : Shifting) : Shifting := (p.1 <<< 1, p.1.getLsbD 7)

/-- One iteration of `alu_shr`: the carry is bit 0 before the shift (R250). -/
def shrOnce (p : Shifting) : Shifting := (p.1 >>> 1, p.1.getLsbD 0)

/-- One iteration of `alu_rol`: the carry enters bit 0 and bit 7 becomes the carry (R251). -/
def rolOnce (p : Shifting) : Shifting := ((p.1 <<< 1) ||| (BitVec.ofBool p.2).setWidth 8, p.1.getLsbD 7)

/-- One iteration of `alu_ror`: the carry enters bit 7 and bit 0 becomes the carry (R252). -/
def rorOnce (p : Shifting) : Shifting := ((p.1 >>> 1) ||| ((BitVec.ofBool p.2).setWidth 8 <<< 7), p.1.getLsbD 0)

/-- `repeat n times` (R249-R252). -/
def iterate (f : Shifting → Shifting) : Nat → Shifting → Shifting
  | 0, p => p
  | n + 1, p => iterate f n (f p)

/-- The result of a loop of R249-R252. -/
def shiftResult (p : Shifting) : AluResult := aluResult p.1 p.2

/-- `alu_shl` (R249). A count of 0 leaves the carry 0 (D7). -/
def aluShl (v : Byte) (n : Nat) : AluResult := shiftResult (iterate shlOnce n (v, false))

/-- `alu_shr` (R250). A count of 0 leaves the carry 0 (D7). -/
def aluShr (v : Byte) (n : Nat) : AluResult := shiftResult (iterate shrOnce n (v, false))

/-- `alu_rol` through carry (R251). A count of 0 leaves the carry in (D7). -/
def aluRol (v : Byte) (n : Nat) (cin : Bool) : AluResult := shiftResult (iterate rolOnce n (v, cin))

/-- `alu_ror` through carry (R252). A count of 0 leaves the carry in (D7). -/
def aluRor (v : Byte) (n : Nat) (cin : Bool) : AluResult := shiftResult (iterate rorOnce n (v, cin))

/-- `getFlag(carry)`, FLAGS[0] (R34). -/
def CoreState.flagC (m : CoreState) : Bool := m.flags.getLsbD 0

/-- `getFlag(zero)`, FLAGS[1] (R34). -/
def CoreState.flagZ (m : CoreState) : Bool := m.flags.getLsbD 1

/-- FLAGS with its two low bits rewritten and bits 7:2 kept (R34, D47). -/
def flagsWith (f : Byte) (z c : Bool) : Byte :=
  (f &&& 0xFC#8) ||| ((BitVec.ofBool z).setWidth 8 <<< 1) ||| (BitVec.ofBool c).setWidth 8

/-- `setFlags(z, c)` (R34). -/
def CoreState.setFlags (m : CoreState) (z c : Bool) : CoreState := { m with flags := flagsWith m.flags z c }

end Sys2Proof.Machine
end

