-- ==== Sys2Proof/Machine/Operands.lean ====
section
/-! DEFINITION. Registers and operand forms (30_encoding.md section 1, 42_data_transfer.md): one shared operation per
operand shape, which the meanings of Machine/Alu.lean, Transfer.lean, Control.lean and Multicore.lean call. -/

namespace Sys2Proof.Machine

open Sys2Proof

/-- `x[r]` (R10). -/
def CoreState.reg (m : CoreState) (r : Reg) : Byte :=
  match r with
  | .a => m.a
  | .b => m.b
  | .c => m.c
  | .d => m.d

/-- `x[r] <- v` (R10). -/
def CoreState.setReg (m : CoreState) (r : Reg) (v : Byte) : CoreState :=
  match r with
  | .a => { m with a := v }
  | .b => { m with b := v }
  | .c => { m with c := v }
  | .d => { m with d := v }

/-- `pc <- pc + n` modulo 65536 (R37, R209). -/
def CoreState.advance (m : CoreState) (n : Nat) : CoreState := { m with pc := m.pc + BitVec.ofNat 16 n }

/-- `pc <- target` (R209, R340). -/
def CoreState.jump (m : CoreState) (target : Word) : CoreState := { m with pc := target }

/-- The result to the destination, then the flags (R253). -/
def CoreState.writeAlu (m : CoreState) (r : Reg) (x : AluResult) : CoreState := (m.setReg r x.result).setFlags x.z x.c

/-- The flags alone, the result discarded (R253, R264-R267). -/
def CoreState.flagAlu (m : CoreState) (x : AluResult) : CoreState := m.setFlags x.z x.c

/-! ## Forms that act on the executing core alone -/

/-- REG_REG, length 1: `d` and `s` to the ALU, the result to `d`. -/
def aluRegReg (f : Byte → Byte → AluResult) (dst src : Reg) (s : State) : Result :=
  .next (s.updMe fun m => (m.writeAlu dst (f (m.reg dst) (m.reg src))).advance 1)

/-- REG_REG, length 1, the result discarded. -/
def flagRegReg (f : Byte → Byte → AluResult) (dst src : Reg) (s : State) : Result :=
  .next (s.updMe fun m => (m.flagAlu (f (m.reg dst) (m.reg src))).advance 1)

/-- REG_IMM8, length 2: `r` and the immediate to the ALU, the result to `r`. -/
def aluRegImm (f : Byte → Byte → AluResult) (r : Reg) (imm : Byte) (s : State) : Result :=
  .next (s.updMe fun m => (m.writeAlu r (f (m.reg r) imm)).advance 2)

/-- REG_IMM8, length 2, the result discarded. -/
def flagRegImm (f : Byte → Byte → AluResult) (r : Reg) (imm : Byte) (s : State) : Result :=
  .next (s.updMe fun m => (m.flagAlu (f (m.reg r) imm)).advance 2)

/-- REG, length 1: one register to the ALU and back. -/
def aluReg (f : Byte → AluResult) (r : Reg) (s : State) : Result :=
  .next (s.updMe fun m => (m.writeAlu r (f (m.reg r))).advance 1)

/-- REG_IMM8, length 2: a shift by the immediate (R271, R272). -/
def shiftRegImm (f : Byte → Nat → AluResult) (r : Reg) (imm : Byte) (s : State) : Result :=
  .next (s.updMe fun m => (m.writeAlu r (f (m.reg r) imm.toNat)).advance 2)

/-- REG_IMM8, length 2: a rotate by the immediate through the carry flag (R273, R274). -/
def rotateRegImm (f : Byte → Nat → Bool → AluResult) (r : Reg) (imm : Byte) (s : State) : Result :=
  .next (s.updMe fun m => (m.writeAlu r (f (m.reg r) imm.toNat m.flagC)).advance 2)

/-- REG_REG, length 1: a move (R302). -/
def moveRegReg (dst src : Reg) (s : State) : Result := .next (s.updMe fun m => (m.setReg dst (m.reg src)).advance 1)

/-- REG_IMM8, length 2: a load of the immediate (R303). -/
def moveRegImm (r : Reg) (imm : Byte) (s : State) : Result := .next (s.updMe fun m => (m.setReg r imm).advance 2)

/-- IMM16, length 3: a jump on a condition over the core's flags (R341-R345, D11). -/
def jumpIf (cond : CoreState → Bool) (target : Word) (s : State) : Result :=
  .next (s.updMe fun m => if cond m then m.jump target else m.advance 3)

/-! ## Forms that access memory -/

/-- REG_MEM, length 3: a load from an absolute address (R304). -/
def loadRegMem (r : Reg) (addr : Word) (s : State) : Result :=
  .next ((s.memRead addr).2.updMe fun m => (m.setReg r (s.memRead addr).1).advance 3)

/-- MEM_REG, length 3: a store to an absolute address (R305). -/
def storeMemReg (r : Reg) (addr : Word) (s : State) : Result :=
  .next ((s.memWrite addr (s.me.reg r)).updMe fun m => m.advance 3)

/-- REG, length 1: a push (R306). -/
def pushReg (r : Reg) (s : State) : Result := .next ((s.push8 (s.me.reg r)).updMe fun m => m.advance 1)

/-- REG, length 1: a pop (R307). -/
def popReg (r : Reg) (s : State) : Result := .next (s.pop8.2.updMe fun m => (m.setReg r s.pop8.1).advance 1)

/-! ## The target of a multi-core operation -/

/-- The target index in A, checked against the count before any state changes (R420). -/
def withTarget (kind : TargetKind) (count : Nat) (run : Nat → State) (s : State) : Result :=
  if s.me.a.toNat < count then .next (run s.me.a.toNat) else .refused (.targetOutOfRange kind s.me.a.toNat)

/-- `pc <- pc + 1` unless the operation targets the executing core's own unit (R421). -/
def State.advanceUnless (s : State) (own : Prop) [Decidable own] : State :=
  if own then s else s.updMe fun m => m.advance 1

/-- The 16-bit value in C (low) and D (high), which the SET_PC operations read (R31, R426, R431). -/
def CoreState.wordCD (m : CoreState) : Word := w16 m.c m.d

end Sys2Proof.Machine
end

