-- ==== Sys2Proof/Machine/Alu.lean ====
section
/-! DEFINITION. The meanings of the ALU instructions (41_alu.md R254-R274): each is one ALU function of Flags.lean over one operand
form of Operands.lean, then setFlags (R253). -/

namespace Sys2Proof.Machine

open Sys2Proof

/-- INC_A (R268). -/
def execIncA (s : State) : Result := aluReg aluInc .a s

/-- INC_B (R268). -/
def execIncB (s : State) : Result := aluReg aluInc .b s

/-- INC_C (R268). -/
def execIncC (s : State) : Result := aluReg aluInc .c s

/-- INC_D (R268). -/
def execIncD (s : State) : Result := aluReg aluInc .d s

/-- DEC_A (R269). -/
def execDecA (s : State) : Result := aluReg aluDec .a s

/-- DEC_B (R269). -/
def execDecB (s : State) : Result := aluReg aluDec .b s

/-- DEC_C (R269). -/
def execDecC (s : State) : Result := aluReg aluDec .c s

/-- DEC_D (R269). -/
def execDecD (s : State) : Result := aluReg aluDec .d s

/-- NOT_A (R270). -/
def execNotA (s : State) : Result := aluReg aluNot .a s

/-- NOT_B (R270). -/
def execNotB (s : State) : Result := aluReg aluNot .b s

/-- NOT_C (R270). -/
def execNotC (s : State) : Result := aluReg aluNot .c s

/-- NOT_D (R270). -/
def execNotD (s : State) : Result := aluReg aluNot .d s

/-- ADD_A_A (R254). -/
def execAddAA (s : State) : Result := aluRegReg aluAdd .a .a s

/-- ADD_A_B (R254). -/
def execAddAB (s : State) : Result := aluRegReg aluAdd .a .b s

/-- ADD_A_C (R254). -/
def execAddAC (s : State) : Result := aluRegReg aluAdd .a .c s

/-- ADD_A_D (R254). -/
def execAddAD (s : State) : Result := aluRegReg aluAdd .a .d s

/-- ADD_B_A (R254). -/
def execAddBA (s : State) : Result := aluRegReg aluAdd .b .a s

/-- ADD_B_B (R254). -/
def execAddBB (s : State) : Result := aluRegReg aluAdd .b .b s

/-- ADD_B_C (R254). -/
def execAddBC (s : State) : Result := aluRegReg aluAdd .b .c s

/-- ADD_B_D (R254). -/
def execAddBD (s : State) : Result := aluRegReg aluAdd .b .d s

/-- ADD_C_A (R254). -/
def execAddCA (s : State) : Result := aluRegReg aluAdd .c .a s

/-- ADD_C_B (R254). -/
def execAddCB (s : State) : Result := aluRegReg aluAdd .c .b s

/-- ADD_C_C (R254). -/
def execAddCC (s : State) : Result := aluRegReg aluAdd .c .c s

/-- ADD_C_D (R254). -/
def execAddCD (s : State) : Result := aluRegReg aluAdd .c .d s

/-- ADD_D_A (R254). -/
def execAddDA (s : State) : Result := aluRegReg aluAdd .d .a s

/-- ADD_D_B (R254). -/
def execAddDB (s : State) : Result := aluRegReg aluAdd .d .b s

/-- ADD_D_C (R254). -/
def execAddDC (s : State) : Result := aluRegReg aluAdd .d .c s

/-- ADD_D_D (R254). -/
def execAddDD (s : State) : Result := aluRegReg aluAdd .d .d s

/-- SUB_A_A (R256). -/
def execSubAA (s : State) : Result := aluRegReg aluSub .a .a s

/-- SUB_A_B (R256). -/
def execSubAB (s : State) : Result := aluRegReg aluSub .a .b s

/-- SUB_A_C (R256). -/
def execSubAC (s : State) : Result := aluRegReg aluSub .a .c s

/-- SUB_A_D (R256). -/
def execSubAD (s : State) : Result := aluRegReg aluSub .a .d s

/-- SUB_B_A (R256). -/
def execSubBA (s : State) : Result := aluRegReg aluSub .b .a s

/-- SUB_B_B (R256). -/
def execSubBB (s : State) : Result := aluRegReg aluSub .b .b s

/-- SUB_B_C (R256). -/
def execSubBC (s : State) : Result := aluRegReg aluSub .b .c s

/-- SUB_B_D (R256). -/
def execSubBD (s : State) : Result := aluRegReg aluSub .b .d s

/-- SUB_C_A (R256). -/
def execSubCA (s : State) : Result := aluRegReg aluSub .c .a s

/-- SUB_C_B (R256). -/
def execSubCB (s : State) : Result := aluRegReg aluSub .c .b s

/-- SUB_C_C (R256). -/
def execSubCC (s : State) : Result := aluRegReg aluSub .c .c s

/-- SUB_C_D (R256). -/
def execSubCD (s : State) : Result := aluRegReg aluSub .c .d s

/-- SUB_D_A (R256). -/
def execSubDA (s : State) : Result := aluRegReg aluSub .d .a s

/-- SUB_D_B (R256). -/
def execSubDB (s : State) : Result := aluRegReg aluSub .d .b s

/-- SUB_D_C (R256). -/
def execSubDC (s : State) : Result := aluRegReg aluSub .d .c s

/-- SUB_D_D (R256). -/
def execSubDD (s : State) : Result := aluRegReg aluSub .d .d s

/-- AND_A_A (R258). -/
def execAndAA (s : State) : Result := aluRegReg aluAnd .a .a s

/-- AND_A_B (R258). -/
def execAndAB (s : State) : Result := aluRegReg aluAnd .a .b s

/-- AND_A_C (R258). -/
def execAndAC (s : State) : Result := aluRegReg aluAnd .a .c s

/-- AND_A_D (R258). -/
def execAndAD (s : State) : Result := aluRegReg aluAnd .a .d s

/-- AND_B_A (R258). -/
def execAndBA (s : State) : Result := aluRegReg aluAnd .b .a s

/-- AND_B_B (R258). -/
def execAndBB (s : State) : Result := aluRegReg aluAnd .b .b s

/-- AND_B_C (R258). -/
def execAndBC (s : State) : Result := aluRegReg aluAnd .b .c s

/-- AND_B_D (R258). -/
def execAndBD (s : State) : Result := aluRegReg aluAnd .b .d s

/-- AND_C_A (R258). -/
def execAndCA (s : State) : Result := aluRegReg aluAnd .c .a s

/-- AND_C_B (R258). -/
def execAndCB (s : State) : Result := aluRegReg aluAnd .c .b s

/-- AND_C_C (R258). -/
def execAndCC (s : State) : Result := aluRegReg aluAnd .c .c s

/-- AND_C_D (R258). -/
def execAndCD (s : State) : Result := aluRegReg aluAnd .c .d s

/-- AND_D_A (R258). -/
def execAndDA (s : State) : Result := aluRegReg aluAnd .d .a s

/-- AND_D_B (R258). -/
def execAndDB (s : State) : Result := aluRegReg aluAnd .d .b s

/-- AND_D_C (R258). -/
def execAndDC (s : State) : Result := aluRegReg aluAnd .d .c s

/-- AND_D_D (R258). -/
def execAndDD (s : State) : Result := aluRegReg aluAnd .d .d s

/-- OR_A_A (R260). -/
def execOrAA (s : State) : Result := aluRegReg aluOr .a .a s

/-- OR_A_B (R260). -/
def execOrAB (s : State) : Result := aluRegReg aluOr .a .b s

/-- OR_A_C (R260). -/
def execOrAC (s : State) : Result := aluRegReg aluOr .a .c s

/-- OR_A_D (R260). -/
def execOrAD (s : State) : Result := aluRegReg aluOr .a .d s

/-- OR_B_A (R260). -/
def execOrBA (s : State) : Result := aluRegReg aluOr .b .a s

/-- OR_B_B (R260). -/
def execOrBB (s : State) : Result := aluRegReg aluOr .b .b s

/-- OR_B_C (R260). -/
def execOrBC (s : State) : Result := aluRegReg aluOr .b .c s

/-- OR_B_D (R260). -/
def execOrBD (s : State) : Result := aluRegReg aluOr .b .d s

/-- OR_C_A (R260). -/
def execOrCA (s : State) : Result := aluRegReg aluOr .c .a s

/-- OR_C_B (R260). -/
def execOrCB (s : State) : Result := aluRegReg aluOr .c .b s

/-- OR_C_C (R260). -/
def execOrCC (s : State) : Result := aluRegReg aluOr .c .c s

/-- OR_C_D (R260). -/
def execOrCD (s : State) : Result := aluRegReg aluOr .c .d s

/-- OR_D_A (R260). -/
def execOrDA (s : State) : Result := aluRegReg aluOr .d .a s

/-- OR_D_B (R260). -/
def execOrDB (s : State) : Result := aluRegReg aluOr .d .b s

/-- OR_D_C (R260). -/
def execOrDC (s : State) : Result := aluRegReg aluOr .d .c s

/-- OR_D_D (R260). -/
def execOrDD (s : State) : Result := aluRegReg aluOr .d .d s

/-- XOR_A_A (R262). -/
def execXorAA (s : State) : Result := aluRegReg aluXor .a .a s

/-- XOR_A_B (R262). -/
def execXorAB (s : State) : Result := aluRegReg aluXor .a .b s

/-- XOR_A_C (R262). -/
def execXorAC (s : State) : Result := aluRegReg aluXor .a .c s

/-- XOR_A_D (R262). -/
def execXorAD (s : State) : Result := aluRegReg aluXor .a .d s

/-- XOR_B_A (R262). -/
def execXorBA (s : State) : Result := aluRegReg aluXor .b .a s

/-- XOR_B_B (R262). -/
def execXorBB (s : State) : Result := aluRegReg aluXor .b .b s

/-- XOR_B_C (R262). -/
def execXorBC (s : State) : Result := aluRegReg aluXor .b .c s

/-- XOR_B_D (R262). -/
def execXorBD (s : State) : Result := aluRegReg aluXor .b .d s

/-- XOR_C_A (R262). -/
def execXorCA (s : State) : Result := aluRegReg aluXor .c .a s

/-- XOR_C_B (R262). -/
def execXorCB (s : State) : Result := aluRegReg aluXor .c .b s

/-- XOR_C_C (R262). -/
def execXorCC (s : State) : Result := aluRegReg aluXor .c .c s

/-- XOR_C_D (R262). -/
def execXorCD (s : State) : Result := aluRegReg aluXor .c .d s

/-- XOR_D_A (R262). -/
def execXorDA (s : State) : Result := aluRegReg aluXor .d .a s

/-- XOR_D_B (R262). -/
def execXorDB (s : State) : Result := aluRegReg aluXor .d .b s

/-- XOR_D_C (R262). -/
def execXorDC (s : State) : Result := aluRegReg aluXor .d .c s

/-- XOR_D_D (R262). -/
def execXorDD (s : State) : Result := aluRegReg aluXor .d .d s

/-- CMP_A_A (R264). -/
def execCmpAA (s : State) : Result := flagRegReg aluSub .a .a s

/-- CMP_A_B (R264). -/
def execCmpAB (s : State) : Result := flagRegReg aluSub .a .b s

/-- CMP_A_C (R264). -/
def execCmpAC (s : State) : Result := flagRegReg aluSub .a .c s

/-- CMP_A_D (R264). -/
def execCmpAD (s : State) : Result := flagRegReg aluSub .a .d s

/-- CMP_B_A (R264). -/
def execCmpBA (s : State) : Result := flagRegReg aluSub .b .a s

/-- CMP_B_B (R264). -/
def execCmpBB (s : State) : Result := flagRegReg aluSub .b .b s

/-- CMP_B_C (R264). -/
def execCmpBC (s : State) : Result := flagRegReg aluSub .b .c s

/-- CMP_B_D (R264). -/
def execCmpBD (s : State) : Result := flagRegReg aluSub .b .d s

/-- CMP_C_A (R264). -/
def execCmpCA (s : State) : Result := flagRegReg aluSub .c .a s

/-- CMP_C_B (R264). -/
def execCmpCB (s : State) : Result := flagRegReg aluSub .c .b s

/-- CMP_C_C (R264). -/
def execCmpCC (s : State) : Result := flagRegReg aluSub .c .c s

/-- CMP_C_D (R264). -/
def execCmpCD (s : State) : Result := flagRegReg aluSub .c .d s

/-- CMP_D_A (R264). -/
def execCmpDA (s : State) : Result := flagRegReg aluSub .d .a s

/-- CMP_D_B (R264). -/
def execCmpDB (s : State) : Result := flagRegReg aluSub .d .b s

/-- CMP_D_C (R264). -/
def execCmpDC (s : State) : Result := flagRegReg aluSub .d .c s

/-- CMP_D_D (R264). -/
def execCmpDD (s : State) : Result := flagRegReg aluSub .d .d s

/-- TEST_A_A (R266). -/
def execTestAA (s : State) : Result := flagRegReg aluAnd .a .a s

/-- TEST_A_B (R266). -/
def execTestAB (s : State) : Result := flagRegReg aluAnd .a .b s

/-- TEST_A_C (R266). -/
def execTestAC (s : State) : Result := flagRegReg aluAnd .a .c s

/-- TEST_A_D (R266). -/
def execTestAD (s : State) : Result := flagRegReg aluAnd .a .d s

/-- TEST_B_A (R266). -/
def execTestBA (s : State) : Result := flagRegReg aluAnd .b .a s

/-- TEST_B_B (R266). -/
def execTestBB (s : State) : Result := flagRegReg aluAnd .b .b s

/-- TEST_B_C (R266). -/
def execTestBC (s : State) : Result := flagRegReg aluAnd .b .c s

/-- TEST_B_D (R266). -/
def execTestBD (s : State) : Result := flagRegReg aluAnd .b .d s

/-- TEST_C_A (R266). -/
def execTestCA (s : State) : Result := flagRegReg aluAnd .c .a s

/-- TEST_C_B (R266). -/
def execTestCB (s : State) : Result := flagRegReg aluAnd .c .b s

/-- TEST_C_C (R266). -/
def execTestCC (s : State) : Result := flagRegReg aluAnd .c .c s

/-- TEST_C_D (R266). -/
def execTestCD (s : State) : Result := flagRegReg aluAnd .c .d s

/-- TEST_D_A (R266). -/
def execTestDA (s : State) : Result := flagRegReg aluAnd .d .a s

/-- TEST_D_B (R266). -/
def execTestDB (s : State) : Result := flagRegReg aluAnd .d .b s

/-- TEST_D_C (R266). -/
def execTestDC (s : State) : Result := flagRegReg aluAnd .d .c s

/-- TEST_D_D (R266). -/
def execTestDD (s : State) : Result := flagRegReg aluAnd .d .d s

/-- ADD_A_IMM (R255). -/
def execAddAImm (imm : Byte) (s : State) : Result := aluRegImm aluAdd .a imm s

/-- ADD_B_IMM (R255). -/
def execAddBImm (imm : Byte) (s : State) : Result := aluRegImm aluAdd .b imm s

/-- ADD_C_IMM (R255). -/
def execAddCImm (imm : Byte) (s : State) : Result := aluRegImm aluAdd .c imm s

/-- ADD_D_IMM (R255). -/
def execAddDImm (imm : Byte) (s : State) : Result := aluRegImm aluAdd .d imm s

/-- SUB_A_IMM (R257). -/
def execSubAImm (imm : Byte) (s : State) : Result := aluRegImm aluSub .a imm s

/-- SUB_B_IMM (R257). -/
def execSubBImm (imm : Byte) (s : State) : Result := aluRegImm aluSub .b imm s

/-- SUB_C_IMM (R257). -/
def execSubCImm (imm : Byte) (s : State) : Result := aluRegImm aluSub .c imm s

/-- SUB_D_IMM (R257). -/
def execSubDImm (imm : Byte) (s : State) : Result := aluRegImm aluSub .d imm s

/-- AND_A_IMM (R259). -/
def execAndAImm (imm : Byte) (s : State) : Result := aluRegImm aluAnd .a imm s

/-- AND_B_IMM (R259). -/
def execAndBImm (imm : Byte) (s : State) : Result := aluRegImm aluAnd .b imm s

/-- AND_C_IMM (R259). -/
def execAndCImm (imm : Byte) (s : State) : Result := aluRegImm aluAnd .c imm s

/-- AND_D_IMM (R259). -/
def execAndDImm (imm : Byte) (s : State) : Result := aluRegImm aluAnd .d imm s

/-- OR_A_IMM (R261). -/
def execOrAImm (imm : Byte) (s : State) : Result := aluRegImm aluOr .a imm s

/-- OR_B_IMM (R261). -/
def execOrBImm (imm : Byte) (s : State) : Result := aluRegImm aluOr .b imm s

/-- OR_C_IMM (R261). -/
def execOrCImm (imm : Byte) (s : State) : Result := aluRegImm aluOr .c imm s

/-- OR_D_IMM (R261). -/
def execOrDImm (imm : Byte) (s : State) : Result := aluRegImm aluOr .d imm s

/-- XOR_A_IMM (R263). -/
def execXorAImm (imm : Byte) (s : State) : Result := aluRegImm aluXor .a imm s

/-- XOR_B_IMM (R263). -/
def execXorBImm (imm : Byte) (s : State) : Result := aluRegImm aluXor .b imm s

/-- XOR_C_IMM (R263). -/
def execXorCImm (imm : Byte) (s : State) : Result := aluRegImm aluXor .c imm s

/-- XOR_D_IMM (R263). -/
def execXorDImm (imm : Byte) (s : State) : Result := aluRegImm aluXor .d imm s

/-- CMP_A_IMM (R265). -/
def execCmpAImm (imm : Byte) (s : State) : Result := flagRegImm aluSub .a imm s

/-- CMP_B_IMM (R265). -/
def execCmpBImm (imm : Byte) (s : State) : Result := flagRegImm aluSub .b imm s

/-- CMP_C_IMM (R265). -/
def execCmpCImm (imm : Byte) (s : State) : Result := flagRegImm aluSub .c imm s

/-- CMP_D_IMM (R265). -/
def execCmpDImm (imm : Byte) (s : State) : Result := flagRegImm aluSub .d imm s

/-- TEST_A_IMM (R267). -/
def execTestAImm (imm : Byte) (s : State) : Result := flagRegImm aluAnd .a imm s

/-- TEST_B_IMM (R267). -/
def execTestBImm (imm : Byte) (s : State) : Result := flagRegImm aluAnd .b imm s

/-- TEST_C_IMM (R267). -/
def execTestCImm (imm : Byte) (s : State) : Result := flagRegImm aluAnd .c imm s

/-- TEST_D_IMM (R267). -/
def execTestDImm (imm : Byte) (s : State) : Result := flagRegImm aluAnd .d imm s

/-- SHL_A_IMM (R271). -/
def execShlAImm (imm : Byte) (s : State) : Result := shiftRegImm aluShl .a imm s

/-- SHL_B_IMM (R271). -/
def execShlBImm (imm : Byte) (s : State) : Result := shiftRegImm aluShl .b imm s

/-- SHL_C_IMM (R271). -/
def execShlCImm (imm : Byte) (s : State) : Result := shiftRegImm aluShl .c imm s

/-- SHL_D_IMM (R271). -/
def execShlDImm (imm : Byte) (s : State) : Result := shiftRegImm aluShl .d imm s

/-- SHR_A_IMM (R272). -/
def execShrAImm (imm : Byte) (s : State) : Result := shiftRegImm aluShr .a imm s

/-- SHR_B_IMM (R272). -/
def execShrBImm (imm : Byte) (s : State) : Result := shiftRegImm aluShr .b imm s

/-- SHR_C_IMM (R272). -/
def execShrCImm (imm : Byte) (s : State) : Result := shiftRegImm aluShr .c imm s

/-- SHR_D_IMM (R272). -/
def execShrDImm (imm : Byte) (s : State) : Result := shiftRegImm aluShr .d imm s

/-- ROL_A_IMM (R273). -/
def execRolAImm (imm : Byte) (s : State) : Result := rotateRegImm aluRol .a imm s

/-- ROL_B_IMM (R273). -/
def execRolBImm (imm : Byte) (s : State) : Result := rotateRegImm aluRol .b imm s

/-- ROL_C_IMM (R273). -/
def execRolCImm (imm : Byte) (s : State) : Result := rotateRegImm aluRol .c imm s

/-- ROL_D_IMM (R273). -/
def execRolDImm (imm : Byte) (s : State) : Result := rotateRegImm aluRol .d imm s

/-- ROR_A_IMM (R274). -/
def execRorAImm (imm : Byte) (s : State) : Result := rotateRegImm aluRor .a imm s

/-- ROR_B_IMM (R274). -/
def execRorBImm (imm : Byte) (s : State) : Result := rotateRegImm aluRor .b imm s

/-- ROR_C_IMM (R274). -/
def execRorCImm (imm : Byte) (s : State) : Result := rotateRegImm aluRor .c imm s

/-- ROR_D_IMM (R274). -/
def execRorDImm (imm : Byte) (s : State) : Result := rotateRegImm aluRor .d imm s

end Sys2Proof.Machine
end

