-- ==== Sys2Proof/Machine/Control.lean ====
section
/-! DEFINITION. The meanings of the control transfer instructions (43_control_transfer.md R341-R348). A transfer sets PC to
its absolute target and does not add its length (R209, R340). Only IRET writes FLAGS (D8). -/

namespace Sys2Proof.Machine

open Sys2Proof

/-- JMP (R341). -/
def execJmp (imm : Word) (s : State) : Result := .next (s.updMe fun m => m.jump imm)

/-- JZ (R342). -/
def execJz (imm : Word) (s : State) : Result := jumpIf (fun m => m.flagZ) imm s

/-- JNZ (R343). -/
def execJnz (imm : Word) (s : State) : Result := jumpIf (fun m => !m.flagZ) imm s

/-- JC (R344). -/
def execJc (imm : Word) (s : State) : Result := jumpIf (fun m => m.flagC) imm s

/-- JNC (R345). -/
def execJnc (imm : Word) (s : State) : Result := jumpIf (fun m => !m.flagC) imm s

/-- The address of the instruction after a CALL, which it pushes (R346). -/
def CoreState.returnAddr (m : CoreState) : Word := m.pc + 3

/-- CALL: push the return address, high byte first, then jump (R346, D10). -/
def execCall (imm : Word) (s : State) : Result :=
  .next (((s.push8 (hiByte s.me.returnAddr)).push8 (loByte s.me.returnAddr)).updMe fun m => m.jump imm)

/-- RET: pop the low byte, then the high byte, of PC (R347). -/
def execRet (s : State) : Result :=
  let lo := s.pop8
  let hi := lo.2.pop8
  .next (hi.2.updMe fun m => m.jump (w16 lo.1 hi.1))

/-- IRET: the return from an interrupt, which acts alike outside a handler (R348). -/
def execIret (s : State) : Result := .next (interruptReturn s)

end Sys2Proof.Machine
end

