-- ==== Sys2Proof/Machine/Multicore.lean ====
section
/-! DEFINITION. The meanings of the multi-core and multi-CPU control instructions (45_multicore.md R420-R432). The target
index is in A; a start or halt of one's own unit leaves PC (R421). None writes FLAGS (D8). -/

namespace Sys2Proof.Machine

open Sys2Proof

/-- Core `t` of the executing core's CPU (R420). -/
def State.sibling (s : State) (t : Nat) : CoreId := ⟨s.self.cpu, t⟩

/-- The 1-bit status, as the byte written to A (D20). -/
def statusByte (halted : Bool) : Byte := if halted then 1#8 else 0#8

/-- A core's run state set. -/
def CoreState.setHalted (m : CoreState) (b : Bool) : CoreState := { m with halted := b }

/-- A CPU's run state set. -/
def CpuState.setHalted (p : CpuState) (b : Bool) : CpuState := { p with halted := b }

/-- A count or a status to A, then PC + 1 (D20). -/
def State.answerInA (s : State) (v : Byte) : State := s.updMe fun m => (m.setReg .a v).advance 1

/-- CORE_COUNT (R422). -/
def execCoreCount (s : State) : Result := .next (s.answerInA (BitVec.ofNat 8 s.numCores))

/-- CORE_STATUS (R423). -/
def execCoreStatus (s : State) : Result :=
  withTarget .core s.numCores (fun t => s.answerInA (statusByte (s.core (s.sibling t)).halted)) s

/-- CORE_START (R424). -/
def execCoreStart (s : State) : Result :=
  withTarget .core s.numCores
    (fun t => (s.modifyCore (s.sibling t) fun m => m.setHalted false).advanceUnless (t = s.self.core)) s

/-- CORE_HALT (R425). -/
def execCoreHalt (s : State) : Result :=
  withTarget .core s.numCores
    (fun t => (s.modifyCore (s.sibling t) fun m => m.setHalted true).advanceUnless (t = s.self.core)) s

/-- Core `id` gets `pc`, if `gate` holds (R426, R431, D22). -/
def State.setPcIf (s : State) (gate : Bool) (id : CoreId) (pc : Word) : State :=
  if gate then s.modifyCore id fun m => m.jump pc else s

/-- CORE_SET_PC: only a halted target's PC is written (R426, D22). -/
def execCoreSetPc (s : State) : Result :=
  withTarget .core s.numCores
    (fun t => (s.setPcIf (s.core (s.sibling t)).halted (s.sibling t) s.me.wordCD).updMe fun m => m.advance 1) s

/-- CPU_COUNT (R427). -/
def execCpuCount (s : State) : Result := .next (s.answerInA (BitVec.ofNat 8 s.numCpus))

/-- CPU_STATUS: the CPU's own flag (R428, D23). -/
def execCpuStatus (s : State) : Result :=
  withTarget .cpu s.numCpus (fun t => s.answerInA (statusByte (s.cpu t).halted)) s

/-- CPU_START (R429). -/
def execCpuStart (s : State) : Result :=
  withTarget .cpu s.numCpus
    (fun t => (s.modifyCpu t fun p => p.setHalted false).advanceUnless (t = s.self.cpu)) s

/-- CPU_HALT (R430). -/
def execCpuHalt (s : State) : Result :=
  withTarget .cpu s.numCpus
    (fun t => (s.modifyCpu t fun p => p.setHalted true).advanceUnless (t = s.self.cpu)) s

/-- CPU_SET_PC: core 0 of a halted target CPU gets the PC (R431, D22, D23). -/
def execCpuSetPc (s : State) : Result :=
  withTarget .cpu s.numCpus
    (fun t => (s.setPcIf (s.cpu t).halted ⟨t, 0⟩ s.me.wordCD).updMe fun m => m.advance 1) s

end Sys2Proof.Machine
end

