-- ==== Sys2Proof/Machine/System.lean ====
section
/-! DEFINITION. The meanings of the system instructions (44_system.md R380-R385). None is privileged (R486) and none
writes FLAGS (D8). -/

namespace Sys2Proof.Machine

open Sys2Proof

/-- NOP (R380). -/
def execNop (s : State) : Result := .next (s.updMe fun m => m.advance 1)

/-- HALT (R381). -/
def execHalt (s : State) : Result := .next (s.updMe fun m => ({ m with halted := true } : CoreState).advance 1)

/-- SYSCALL 0 on core 0 of a CPU: clear the program region and all caches, then go to OS_START (R382). -/
def State.exitProgram (s : State) : State := s.clearProgram.clearCaches.updMe fun m => m.jump s.cfg.osStart

/-- Bus accesses by the executing core, one after the other (R119): a write of a byte, or a read. -/
def State.access : List (Word × Option Byte) → State → State
  | [], s => s
  | (a, none) :: l, s => State.access l (s.memRead a).2
  | (a, some v) :: l, s => State.access l (s.memWrite a v)

/-- A service of the operating system: its accesses, then the general registers and PC it leaves (D17, log 10). FLAGS are
unchanged (R382), and so is every other register of the core (R38, R42). -/
def State.serve (s : State) (x : Service) : State :=
  (State.access x.accesses s.drawn).updMe fun m => { m with a := x.a, b := x.b, c := x.c, d := x.d, pc := x.pc }

/-- SYSCALL: `n = 0` exits, or halts a core whose index is not 0; any other `n` is what SYSCALL_OTHER says, a service or a
refusal (R382, D17, D18, log 10). -/
def execSyscall (imm : Byte) (s : State) : Result :=
  if imm = 0#8 then
    if s.self.core = 0 then .next s.exitProgram
    else .next (s.updMe fun m => ({ m with halted := true } : CoreState).advance 2)
  else if imm ∈ s.cfg.syscallOther then .next (s.serve (Config.serviceAnswer s.oracleDraws imm))
  else .refused (.syscallOther imm s.self.cpu s.self.core s.me.pc)

/-- The executing core records its PC as the breakpoint and its CPU is paused; PC stays (R205, R383). -/
def State.recordBreakpoint (s : State) : State :=
  (s.updMe fun m => { m with currentBreakpoint := some m.pc }).modifyCpu s.self.cpu fun p => { p with paused := true }

/-- BREAKPOINT: clear the record of this very address and go on, or record it and pause the CPU (R383). -/
def execBreakpoint (s : State) : Result :=
  if s.me.currentBreakpoint = some s.me.pc then
    .next (s.updMe fun m => ({ m with currentBreakpoint := none } : CoreState).advance 1)
  else .next s.recordBreakpoint

/-- EI (R384). -/
def execEi (s : State) : Result := .next (s.updMe fun m => ({ m with ie := true } : CoreState).advance 1)

/-- DI (R385). -/
def execDi (s : State) : Result := .next (s.updMe fun m => ({ m with ie := false } : CoreState).advance 1)

end Sys2Proof.Machine
end

