-- ==== Sys2Proof/Machine/Transfer.lean ====
section
/-! DEFINITION. The meanings of the data transfer and stack instructions (42_data_transfer.md R302-R308). None writes FLAGS (D8). -/

namespace Sys2Proof.Machine

open Sys2Proof

/-- PUSH_A (R306). -/
def execPushA (s : State) : Result := pushReg .a s

/-- PUSH_B (R306). -/
def execPushB (s : State) : Result := pushReg .b s

/-- PUSH_C (R306). -/
def execPushC (s : State) : Result := pushReg .c s

/-- PUSH_D (R306). -/
def execPushD (s : State) : Result := pushReg .d s

/-- POP_A (R307). -/
def execPopA (s : State) : Result := popReg .a s

/-- POP_B (R307). -/
def execPopB (s : State) : Result := popReg .b s

/-- POP_C (R307). -/
def execPopC (s : State) : Result := popReg .c s

/-- POP_D (R307). -/
def execPopD (s : State) : Result := popReg .d s

/-- MOV_A_IMM (R303). -/
def execMovAImm (imm : Byte) (s : State) : Result := moveRegImm .a imm s

/-- MOV_B_IMM (R303). -/
def execMovBImm (imm : Byte) (s : State) : Result := moveRegImm .b imm s

/-- MOV_C_IMM (R303). -/
def execMovCImm (imm : Byte) (s : State) : Result := moveRegImm .c imm s

/-- MOV_D_IMM (R303). -/
def execMovDImm (imm : Byte) (s : State) : Result := moveRegImm .d imm s

/-- MOV_A_MEM (R304). -/
def execMovAMem (addr : Word) (s : State) : Result := loadRegMem .a addr s

/-- MOV_B_MEM (R304). -/
def execMovBMem (addr : Word) (s : State) : Result := loadRegMem .b addr s

/-- MOV_C_MEM (R304). -/
def execMovCMem (addr : Word) (s : State) : Result := loadRegMem .c addr s

/-- MOV_D_MEM (R304). -/
def execMovDMem (addr : Word) (s : State) : Result := loadRegMem .d addr s

/-- MOV_MEM_A (R305). -/
def execMovMemA (addr : Word) (s : State) : Result := storeMemReg .a addr s

/-- MOV_MEM_B (R305). -/
def execMovMemB (addr : Word) (s : State) : Result := storeMemReg .b addr s

/-- MOV_MEM_C (R305). -/
def execMovMemC (addr : Word) (s : State) : Result := storeMemReg .c addr s

/-- MOV_MEM_D (R305). -/
def execMovMemD (addr : Word) (s : State) : Result := storeMemReg .d addr s

/-- MOV_A_A (R302). -/
def execMovAA (s : State) : Result := moveRegReg .a .a s

/-- MOV_A_B (R302). -/
def execMovAB (s : State) : Result := moveRegReg .a .b s

/-- MOV_A_C (R302). -/
def execMovAC (s : State) : Result := moveRegReg .a .c s

/-- MOV_A_D (R302). -/
def execMovAD (s : State) : Result := moveRegReg .a .d s

/-- MOV_B_A (R302). -/
def execMovBA (s : State) : Result := moveRegReg .b .a s

/-- MOV_B_B (R302). -/
def execMovBB (s : State) : Result := moveRegReg .b .b s

/-- MOV_B_C (R302). -/
def execMovBC (s : State) : Result := moveRegReg .b .c s

/-- MOV_B_D (R302). -/
def execMovBD (s : State) : Result := moveRegReg .b .d s

/-- MOV_C_A (R302). -/
def execMovCA (s : State) : Result := moveRegReg .c .a s

/-- MOV_C_B (R302). -/
def execMovCB (s : State) : Result := moveRegReg .c .b s

/-- MOV_C_C (R302). -/
def execMovCC (s : State) : Result := moveRegReg .c .c s

/-- MOV_C_D (R302). -/
def execMovCD (s : State) : Result := moveRegReg .c .d s

/-- MOV_D_A (R302). -/
def execMovDA (s : State) : Result := moveRegReg .d .a s

/-- MOV_D_B (R302). -/
def execMovDB (s : State) : Result := moveRegReg .d .b s

/-- MOV_D_C (R302). -/
def execMovDC (s : State) : Result := moveRegReg .d .c s

/-- MOV_D_D (R302). -/
def execMovDD (s : State) : Result := moveRegReg .d .d s

/-- SET_SP (R308). -/
def execSetSp (imm : Word) (s : State) : Result := .next (s.updMe fun m => ({ m with sp := imm } : CoreState).advance 3)

end Sys2Proof.Machine
end

