-- ==== Sys2Proof/Machine/Dispatch.lean ====
section
/-! DEFINITION. The meaning of each instruction, one arm per row of spec/opcode_table.json. -/

namespace Sys2Proof.Machine

open Sys2Proof

/-- Executes one instruction on the executing core `s.self`, whose PC holds the address of the instruction's opcode byte
(R37, R211). -/
def exec (i : Instr) (s : State) : Host.Outcome State Fault Refusal :=
  match i with
  | .nop => Sys2Proof.Machine.execNop s
  | .halt => Sys2Proof.Machine.execHalt s
  | .syscall imm => Sys2Proof.Machine.execSyscall imm s
  | .breakpoint => Sys2Proof.Machine.execBreakpoint s
  | .ei => Sys2Proof.Machine.execEi s
  | .di => Sys2Proof.Machine.execDi s
  | .iret => Sys2Proof.Machine.execIret s
  | .ret => Sys2Proof.Machine.execRet s
  | .call imm => Sys2Proof.Machine.execCall imm s
  | .jmp imm => Sys2Proof.Machine.execJmp imm s
  | .jz imm => Sys2Proof.Machine.execJz imm s
  | .jnz imm => Sys2Proof.Machine.execJnz imm s
  | .jc imm => Sys2Proof.Machine.execJc imm s
  | .jnc imm => Sys2Proof.Machine.execJnc imm s
  | .setSp imm => Sys2Proof.Machine.execSetSp imm s
  | .pushA => Sys2Proof.Machine.execPushA s
  | .pushB => Sys2Proof.Machine.execPushB s
  | .pushC => Sys2Proof.Machine.execPushC s
  | .pushD => Sys2Proof.Machine.execPushD s
  | .popA => Sys2Proof.Machine.execPopA s
  | .popB => Sys2Proof.Machine.execPopB s
  | .popC => Sys2Proof.Machine.execPopC s
  | .popD => Sys2Proof.Machine.execPopD s
  | .incA => Sys2Proof.Machine.execIncA s
  | .incB => Sys2Proof.Machine.execIncB s
  | .incC => Sys2Proof.Machine.execIncC s
  | .incD => Sys2Proof.Machine.execIncD s
  | .decA => Sys2Proof.Machine.execDecA s
  | .decB => Sys2Proof.Machine.execDecB s
  | .decC => Sys2Proof.Machine.execDecC s
  | .decD => Sys2Proof.Machine.execDecD s
  | .notA => Sys2Proof.Machine.execNotA s
  | .notB => Sys2Proof.Machine.execNotB s
  | .notC => Sys2Proof.Machine.execNotC s
  | .notD => Sys2Proof.Machine.execNotD s
  | .movAImm imm => Sys2Proof.Machine.execMovAImm imm s
  | .movBImm imm => Sys2Proof.Machine.execMovBImm imm s
  | .movCImm imm => Sys2Proof.Machine.execMovCImm imm s
  | .movDImm imm => Sys2Proof.Machine.execMovDImm imm s
  | .movAMem addr => Sys2Proof.Machine.execMovAMem addr s
  | .movBMem addr => Sys2Proof.Machine.execMovBMem addr s
  | .movCMem addr => Sys2Proof.Machine.execMovCMem addr s
  | .movDMem addr => Sys2Proof.Machine.execMovDMem addr s
  | .movMemA addr => Sys2Proof.Machine.execMovMemA addr s
  | .movMemB addr => Sys2Proof.Machine.execMovMemB addr s
  | .movMemC addr => Sys2Proof.Machine.execMovMemC addr s
  | .movMemD addr => Sys2Proof.Machine.execMovMemD addr s
  | .movAA => Sys2Proof.Machine.execMovAA s
  | .movAB => Sys2Proof.Machine.execMovAB s
  | .movAC => Sys2Proof.Machine.execMovAC s
  | .movAD => Sys2Proof.Machine.execMovAD s
  | .movBA => Sys2Proof.Machine.execMovBA s
  | .movBB => Sys2Proof.Machine.execMovBB s
  | .movBC => Sys2Proof.Machine.execMovBC s
  | .movBD => Sys2Proof.Machine.execMovBD s
  | .movCA => Sys2Proof.Machine.execMovCA s
  | .movCB => Sys2Proof.Machine.execMovCB s
  | .movCC => Sys2Proof.Machine.execMovCC s
  | .movCD => Sys2Proof.Machine.execMovCD s
  | .movDA => Sys2Proof.Machine.execMovDA s
  | .movDB => Sys2Proof.Machine.execMovDB s
  | .movDC => Sys2Proof.Machine.execMovDC s
  | .movDD => Sys2Proof.Machine.execMovDD s
  | .addAA => Sys2Proof.Machine.execAddAA s
  | .addAB => Sys2Proof.Machine.execAddAB s
  | .addAC => Sys2Proof.Machine.execAddAC s
  | .addAD => Sys2Proof.Machine.execAddAD s
  | .addBA => Sys2Proof.Machine.execAddBA s
  | .addBB => Sys2Proof.Machine.execAddBB s
  | .addBC => Sys2Proof.Machine.execAddBC s
  | .addBD => Sys2Proof.Machine.execAddBD s
  | .addCA => Sys2Proof.Machine.execAddCA s
  | .addCB => Sys2Proof.Machine.execAddCB s
  | .addCC => Sys2Proof.Machine.execAddCC s
  | .addCD => Sys2Proof.Machine.execAddCD s
  | .addDA => Sys2Proof.Machine.execAddDA s
  | .addDB => Sys2Proof.Machine.execAddDB s
  | .addDC => Sys2Proof.Machine.execAddDC s
  | .addDD => Sys2Proof.Machine.execAddDD s
  | .subAA => Sys2Proof.Machine.execSubAA s
  | .subAB => Sys2Proof.Machine.execSubAB s
  | .subAC => Sys2Proof.Machine.execSubAC s
  | .subAD => Sys2Proof.Machine.execSubAD s
  | .subBA => Sys2Proof.Machine.execSubBA s
  | .subBB => Sys2Proof.Machine.execSubBB s
  | .subBC => Sys2Proof.Machine.execSubBC s
  | .subBD => Sys2Proof.Machine.execSubBD s
  | .subCA => Sys2Proof.Machine.execSubCA s
  | .subCB => Sys2Proof.Machine.execSubCB s
  | .subCC => Sys2Proof.Machine.execSubCC s
  | .subCD => Sys2Proof.Machine.execSubCD s
  | .subDA => Sys2Proof.Machine.execSubDA s
  | .subDB => Sys2Proof.Machine.execSubDB s
  | .subDC => Sys2Proof.Machine.execSubDC s
  | .subDD => Sys2Proof.Machine.execSubDD s
  | .andAA => Sys2Proof.Machine.execAndAA s
  | .andAB => Sys2Proof.Machine.execAndAB s
  | .andAC => Sys2Proof.Machine.execAndAC s
  | .andAD => Sys2Proof.Machine.execAndAD s
  | .andBA => Sys2Proof.Machine.execAndBA s
  | .andBB => Sys2Proof.Machine.execAndBB s
  | .andBC => Sys2Proof.Machine.execAndBC s
  | .andBD => Sys2Proof.Machine.execAndBD s
  | .andCA => Sys2Proof.Machine.execAndCA s
  | .andCB => Sys2Proof.Machine.execAndCB s
  | .andCC => Sys2Proof.Machine.execAndCC s
  | .andCD => Sys2Proof.Machine.execAndCD s
  | .andDA => Sys2Proof.Machine.execAndDA s
  | .andDB => Sys2Proof.Machine.execAndDB s
  | .andDC => Sys2Proof.Machine.execAndDC s
  | .andDD => Sys2Proof.Machine.execAndDD s
  | .orAA => Sys2Proof.Machine.execOrAA s
  | .orAB => Sys2Proof.Machine.execOrAB s
  | .orAC => Sys2Proof.Machine.execOrAC s
  | .orAD => Sys2Proof.Machine.execOrAD s
  | .orBA => Sys2Proof.Machine.execOrBA s
  | .orBB => Sys2Proof.Machine.execOrBB s
  | .orBC => Sys2Proof.Machine.execOrBC s
  | .orBD => Sys2Proof.Machine.execOrBD s
  | .orCA => Sys2Proof.Machine.execOrCA s
  | .orCB => Sys2Proof.Machine.execOrCB s
  | .orCC => Sys2Proof.Machine.execOrCC s
  | .orCD => Sys2Proof.Machine.execOrCD s
  | .orDA => Sys2Proof.Machine.execOrDA s
  | .orDB => Sys2Proof.Machine.execOrDB s
  | .orDC => Sys2Proof.Machine.execOrDC s
  | .orDD => Sys2Proof.Machine.execOrDD s
  | .xorAA => Sys2Proof.Machine.execXorAA s
  | .xorAB => Sys2Proof.Machine.execXorAB s
  | .xorAC => Sys2Proof.Machine.execXorAC s
  | .xorAD => Sys2Proof.Machine.execXorAD s
  | .xorBA => Sys2Proof.Machine.execXorBA s
  | .xorBB => Sys2Proof.Machine.execXorBB s
  | .xorBC => Sys2Proof.Machine.execXorBC s
  | .xorBD => Sys2Proof.Machine.execXorBD s
  | .xorCA => Sys2Proof.Machine.execXorCA s
  | .xorCB => Sys2Proof.Machine.execXorCB s
  | .xorCC => Sys2Proof.Machine.execXorCC s
  | .xorCD => Sys2Proof.Machine.execXorCD s
  | .xorDA => Sys2Proof.Machine.execXorDA s
  | .xorDB => Sys2Proof.Machine.execXorDB s
  | .xorDC => Sys2Proof.Machine.execXorDC s
  | .xorDD => Sys2Proof.Machine.execXorDD s
  | .cmpAA => Sys2Proof.Machine.execCmpAA s
  | .cmpAB => Sys2Proof.Machine.execCmpAB s
  | .cmpAC => Sys2Proof.Machine.execCmpAC s
  | .cmpAD => Sys2Proof.Machine.execCmpAD s
  | .cmpBA => Sys2Proof.Machine.execCmpBA s
  | .cmpBB => Sys2Proof.Machine.execCmpBB s
  | .cmpBC => Sys2Proof.Machine.execCmpBC s
  | .cmpBD => Sys2Proof.Machine.execCmpBD s
  | .cmpCA => Sys2Proof.Machine.execCmpCA s
  | .cmpCB => Sys2Proof.Machine.execCmpCB s
  | .cmpCC => Sys2Proof.Machine.execCmpCC s
  | .cmpCD => Sys2Proof.Machine.execCmpCD s
  | .cmpDA => Sys2Proof.Machine.execCmpDA s
  | .cmpDB => Sys2Proof.Machine.execCmpDB s
  | .cmpDC => Sys2Proof.Machine.execCmpDC s
  | .cmpDD => Sys2Proof.Machine.execCmpDD s
  | .testAA => Sys2Proof.Machine.execTestAA s
  | .testAB => Sys2Proof.Machine.execTestAB s
  | .testAC => Sys2Proof.Machine.execTestAC s
  | .testAD => Sys2Proof.Machine.execTestAD s
  | .testBA => Sys2Proof.Machine.execTestBA s
  | .testBB => Sys2Proof.Machine.execTestBB s
  | .testBC => Sys2Proof.Machine.execTestBC s
  | .testBD => Sys2Proof.Machine.execTestBD s
  | .testCA => Sys2Proof.Machine.execTestCA s
  | .testCB => Sys2Proof.Machine.execTestCB s
  | .testCC => Sys2Proof.Machine.execTestCC s
  | .testCD => Sys2Proof.Machine.execTestCD s
  | .testDA => Sys2Proof.Machine.execTestDA s
  | .testDB => Sys2Proof.Machine.execTestDB s
  | .testDC => Sys2Proof.Machine.execTestDC s
  | .testDD => Sys2Proof.Machine.execTestDD s
  | .addAImm imm => Sys2Proof.Machine.execAddAImm imm s
  | .addBImm imm => Sys2Proof.Machine.execAddBImm imm s
  | .addCImm imm => Sys2Proof.Machine.execAddCImm imm s
  | .addDImm imm => Sys2Proof.Machine.execAddDImm imm s
  | .subAImm imm => Sys2Proof.Machine.execSubAImm imm s
  | .subBImm imm => Sys2Proof.Machine.execSubBImm imm s
  | .subCImm imm => Sys2Proof.Machine.execSubCImm imm s
  | .subDImm imm => Sys2Proof.Machine.execSubDImm imm s
  | .andAImm imm => Sys2Proof.Machine.execAndAImm imm s
  | .andBImm imm => Sys2Proof.Machine.execAndBImm imm s
  | .andCImm imm => Sys2Proof.Machine.execAndCImm imm s
  | .andDImm imm => Sys2Proof.Machine.execAndDImm imm s
  | .orAImm imm => Sys2Proof.Machine.execOrAImm imm s
  | .orBImm imm => Sys2Proof.Machine.execOrBImm imm s
  | .orCImm imm => Sys2Proof.Machine.execOrCImm imm s
  | .orDImm imm => Sys2Proof.Machine.execOrDImm imm s
  | .xorAImm imm => Sys2Proof.Machine.execXorAImm imm s
  | .xorBImm imm => Sys2Proof.Machine.execXorBImm imm s
  | .xorCImm imm => Sys2Proof.Machine.execXorCImm imm s
  | .xorDImm imm => Sys2Proof.Machine.execXorDImm imm s
  | .cmpAImm imm => Sys2Proof.Machine.execCmpAImm imm s
  | .cmpBImm imm => Sys2Proof.Machine.execCmpBImm imm s
  | .cmpCImm imm => Sys2Proof.Machine.execCmpCImm imm s
  | .cmpDImm imm => Sys2Proof.Machine.execCmpDImm imm s
  | .testAImm imm => Sys2Proof.Machine.execTestAImm imm s
  | .testBImm imm => Sys2Proof.Machine.execTestBImm imm s
  | .testCImm imm => Sys2Proof.Machine.execTestCImm imm s
  | .testDImm imm => Sys2Proof.Machine.execTestDImm imm s
  | .shlAImm imm => Sys2Proof.Machine.execShlAImm imm s
  | .shlBImm imm => Sys2Proof.Machine.execShlBImm imm s
  | .shlCImm imm => Sys2Proof.Machine.execShlCImm imm s
  | .shlDImm imm => Sys2Proof.Machine.execShlDImm imm s
  | .shrAImm imm => Sys2Proof.Machine.execShrAImm imm s
  | .shrBImm imm => Sys2Proof.Machine.execShrBImm imm s
  | .shrCImm imm => Sys2Proof.Machine.execShrCImm imm s
  | .shrDImm imm => Sys2Proof.Machine.execShrDImm imm s
  | .rolAImm imm => Sys2Proof.Machine.execRolAImm imm s
  | .rolBImm imm => Sys2Proof.Machine.execRolBImm imm s
  | .rolCImm imm => Sys2Proof.Machine.execRolCImm imm s
  | .rolDImm imm => Sys2Proof.Machine.execRolDImm imm s
  | .rorAImm imm => Sys2Proof.Machine.execRorAImm imm s
  | .rorBImm imm => Sys2Proof.Machine.execRorBImm imm s
  | .rorCImm imm => Sys2Proof.Machine.execRorCImm imm s
  | .rorDImm imm => Sys2Proof.Machine.execRorDImm imm s
  | .coreCount => Sys2Proof.Machine.execCoreCount s
  | .coreStatus => Sys2Proof.Machine.execCoreStatus s
  | .coreStart => Sys2Proof.Machine.execCoreStart s
  | .coreHalt => Sys2Proof.Machine.execCoreHalt s
  | .coreSetPc => Sys2Proof.Machine.execCoreSetPc s
  | .cpuCount => Sys2Proof.Machine.execCpuCount s
  | .cpuStatus => Sys2Proof.Machine.execCpuStatus s
  | .cpuStart => Sys2Proof.Machine.execCpuStart s
  | .cpuHalt => Sys2Proof.Machine.execCpuHalt s
  | .cpuSetPc => Sys2Proof.Machine.execCpuSetPc s

end Sys2Proof.Machine
end

