-- ==== Sys2Proof/Machine/Cycle.lean ====
section
/-! DEFINITION. The fetch-decode-execute state machine (40_cycle.md): the core-cycle, the CPU-cycle, the host's actions
(R492) and placing bytes where the next step fetches. -/

namespace Sys2Proof.Machine

open Sys2Proof

/-! ## Fetch and decode -/

/-- The length of the instruction an opcode byte selects; 1 for an unassigned byte, which has no operands (R160). -/
def opcodeLength (m : OpcodeMap) (b : Byte) : Nat := ((m.kindOf b).bind kindLength).getD 1

/-- Count the core-cycle, and read the byte at PC into IR (R208). -/
def State.fetchOpcode (s : State) : State :=
  let counted := s.updMe fun m => { m with cycleCount := m.cycleCount + 1 }
  let byte := counted.memRead counted.me.pc
  byte.2.updMe fun m => { m with ir := byte.1 }

/-- The operand bytes of the opcode in IR, read at PC + 1 onwards, low byte first (R163). -/
def State.fetchOperands (s : State) : List Byte × State :=
  s.memReadBytes (opcodeLength s.cfg.opcodeMap s.me.ir - 1) (s.me.pc + 1)

/-- The instruction at PC, and the machine after its bytes are fetched (R163, R208). -/
def State.fetch (s : State) : Except DecodeError Instr × State :=
  let opcode := s.fetchOpcode
  let operands := opcode.fetchOperands
  ((decode s.cfg.opcodeMap (opcode.me.ir :: operands.1)).map Prod.fst, operands.2)

/-- An unknown opcode: PC + 1, the core halts, and the error is logged with the byte's own address (R210, C1). -/
def State.unknownOpcode (s : State) : State :=
  (s.updMe fun m => ({ m with halted := true } : CoreState).advance 1).log
    (.unknownOpcode s.self.cpu s.self.core s.me.pc s.me.ir)

/-- Step 6 of the core-cycle: fetch, decode, execute (R208). -/
def fetchExecute (s : State) : Result :=
  match s.fetch.1 with
  | .ok i => exec i s.fetch.2
  | .error _ => .next s.fetch.2.unknownOpcode

/-! ## The core-cycle -/

/-- The condition of step 3: PC is a global breakpoint, is not the recorded one, and the CPU is not paused (R205, D14). -/
def State.stopsHere (s : State) : Bool :=
  decide (s.me.pc ∈ s.breakpoints) && !decide (s.me.currentBreakpoint = some s.me.pc) && !(s.cpu s.self.cpu).paused

/-- Step 4: the one-shot clear of the recorded breakpoint at PC, if PC is a global breakpoint (R206, D13). -/
def State.passBreakpoint (s : State) : State :=
  if s.me.currentBreakpoint = some s.me.pc ∧ s.me.pc ∈ s.breakpoints then
    s.updMe fun m => { m with currentBreakpoint := none }
  else s

/-- Step 5: the interrupt the executing core takes, if it takes one (R207, R480). -/
def State.takes (s : State) : Option Irq := if s.me.ie && !s.me.inHandler then s.selectIrq s.self else none

/-- Steps 5 and 6 of the core-cycle: an interrupt entry, or one instruction (R203, R207, R208). -/
def interruptOrExecute (s : State) : Result :=
  match s.takes with
  | some i => interruptEntry i s
  | none => fetchExecute s

/-- `coreCycle(c, k)` (R203). Step 3 records and pauses as BREAKPOINT does, without fetching (R205). -/
def coreCycle (id : CoreId) (s : State) : Result :=
  if (s.core id).halted then .next s
  else if (s.focus id).stopsHere then .next (s.focus id).recordBreakpoint
  else interruptOrExecute (s.focus id).passBreakpoint

/-! ## The CPU-cycle -/

/-- Go on from a next state, or stop with a fault or a refusal (R212). -/
def thenRun (r : Result) (f : State → Result) : Result :=
  match r with
  | .next s => f s
  | .fault x => .fault x
  | .refused x => .refused x

/-- The core-cycles of the cores `ks` of CPU `c`, in order. -/
def coreCycles (c : Nat) : List Nat → State → Result
  | [], s => .next s
  | k :: ks, s => thenRun (coreCycle ⟨c, k⟩ s) (coreCycles c ks)

/-- The CPU's own flags let it take a CPU-cycle (R200, D15, D24). -/
def CpuState.mayRun (p : CpuState) (ignorePause : Bool) : Bool := !p.halted && (!p.paused || ignorePause)

/-- `cpuCycle(c, ignorePause)` (R200): the flags are checked once, at the top. -/
def cpuCycle (c : Nat) (ignorePause : Bool) (s : State) : Result :=
  if (s.cpu c).mayRun ignorePause then coreCycles c (List.range (s.cpu c).cores.length) s else .next s

/-! ## The host -/

/-- A set of addresses with one more, strictly rising. -/
def addAddress (a : Word) : List Word → List Word
  | [] => [a]
  | b :: l => if a < b then a :: b :: l else if a = b then b :: l else b :: addAddress a l

/-- A set of addresses from any list of them: membership is its only state (R48, log 13). -/
def addressSet (l : List Word) : List Word := l.foldr addAddress []

/-- One host action (R492). An action on a CPU that does not exist changes nothing (log 11). -/
def hostAction (x : HostAction) (s : State) : Result :=
  match x with
  | .tick c => cpuCycle c false s
  | .debugStep c => cpuCycle c true s
  | .pause c => .next (s.modifyCpu c fun p => { p with paused := true })
  | .resume c => .next (s.modifyCpu c fun p => { p with paused := false })
  | .setBreakpoints l => .next { s with breakpoints := addressSet l }
  | .requestInterrupt irq => .next (s.requestInterrupt irq)

/-- The next host action, and the machine with it taken off: the head of the script, else a tick of the CPU whose turn it
is, round robin (R201, D25, log 2). -/
def State.nextAction (s : State) : HostAction × State :=
  match s.host with
  | x :: rest => (x, { s with host := rest })
  | [] => (.tick s.turn, { s with turn := (s.turn + 1) % s.numCpus })

/-! ## Placing an instruction for the next step -/

/-- A byte loaded into storage at an address outside the I/O window, and dropped from every cache (R123). -/
def State.loadByte (s : State) (a : Word) (v : Byte) : State :=
  if a < ioBase then
    { s with
      mem := s.mem.write a.toNat v
      cpus := s.cpus.map fun p => { p with cache := p.cache.invalidate a } }
  else s

/-- Bytes loaded at rising addresses. -/
def State.loadBytes : List Byte → Word → State → State
  | [], _, s => s
  | v :: l, a, s => State.loadBytes l (a + 1) (s.loadByte a v)

/-- The machine in which the next step is a tick whose first core-cycle is a fetch by core 0 of CPU `turn`: the script
empty, that CPU and core running, no breakpoint at PC and no interrupt taken. At reset this changes nothing (log 14). -/
def State.readyToFetch (s : State) : State :=
  let id : CoreId := ⟨s.turn, 0⟩
  let running := (s.modifyCpu s.turn fun p => { p with halted := false, paused := false }).modifyCore id fun m =>
    { m with halted := false }
  let idle := { running with host := [], breakpoints := s.breakpoints.filter fun a => !decide (a = (s.core id).pc) }
  if (idle.focus id).takes.isSome then { idle with ic := { idle.ic with pending := 0#8 } } else idle

/-- The bytes loaded where the next step fetches its next instruction. -/
def State.placeNext (s : State) (bytes : List Byte) : State :=
  State.loadBytes bytes (s.core ⟨s.turn, 0⟩).pc s.readyToFetch

end Sys2Proof.Machine
end

