-- ==== Sys2Proof/Machine/Step.lean ====
section
/-! DEFINITION. One step of the computer: one host action, of which a tick is one CPU-cycle (R200, R492, log 1). -/

namespace Sys2Proof.Machine

open Sys2Proof

/-- The next host action (`State.nextAction`), performed (R200, R201, R202, R492). -/
def step (s : State) : Host.Outcome State Fault Refusal := hostAction s.nextAction.1 s.nextAction.2

/-- The machine with an instruction of the opcode table loaded where the next step fetches (log 14). -/
def State.withFetchWord (s : State) (nbits w : Nat) : State := s.placeNext (tableBytes nbits w)

end Sys2Proof.Machine
end

