-- ==== Sys2Proof/WellFormed.lean ====
section
/-! DEFINITION. Well-formedness of the parameters (R7, R103, R467), of the CPUs and cores (R7) and of instructions. An instruction's operands are
bytes and words by their types and every value of them is legal (R168), so the one check of an instruction is that
OPCODE_MAP gives its kind a byte (M2). -/

namespace Sys2Proof

/-- OPCODE_MAP names each opcode byte at most once, and only kinds that exist (R164). -/
def OpcodeMap.wf (m : OpcodeMap) : Bool :=
  (m.map Prod.fst).Nodup && m.all fun e => e.2.all fun k => (refInstr k 0#8 0#8).isSome

/-- An instruction that OPCODE_MAP gives an opcode byte (R164, M2). -/
def Instr.wf (m : OpcodeMap) (i : Instr) : Bool := (encodeWith m i).isSome

/-- The regions ROM, OS, PROGRAM, STACK and I/O are contiguous and do not overlap (R101, R102, R103). -/
def Config.mapWf (c : Config) : Bool :=
  c.romEnd.toNat + 1 == c.osStart.toNat && decide (c.osStart ≤ c.osEnd)
    && c.osEnd.toNat + 1 == c.programStart.toNat && decide (c.programStart ≤ c.programEnd)
    && c.programEnd.toNat + 1 == c.stackStart.toNat && decide (c.stackStart ≤ c.stackEnd)
    && c.stackEnd.toNat + 1 == ioBase.toNat

/-- The interrupt controller and the host devices stand in different slots of the sixteen (R104, R107, R467). -/
def Config.slotsWf (c : Config) : Bool :=
  decide (c.icSlot < 16) && c.hostDevices.all (fun s => decide (s < 16) && s != c.icSlot) && c.hostDevices.Nodup

/-- SYSCALL_OTHER is about operands other than 0, each named once (R382). -/
def Config.syscallWf (c : Config) : Bool := decide (0#8 ∉ c.syscallOther) && c.syscallOther.Nodup

/-- The parameters describe a machine of R7. -/
def Config.wf (c : Config) : Bool := c.mapWf && c.slotsWf && c.opcodeMap.wf && c.syscallWf

/-- NUM_CPUS and every NUM_CORES(c) are at least 1 (R7): the CPUs and cores `State.launch` is given. -/
def Machine.shapeWf (shape : List Machine.CpuShape) : Bool :=
  !shape.isEmpty && shape.all fun p => !p.coresHalted.isEmpty

end Sys2Proof
end

