-- ==== Sys2Proof/Safety.lean ====
section
/-! DEFINITION. The terms claims are stated in: the invariant of the machine, cache coherence, the run states of R42 and
R213, the end of a run (R493), and what an instruction leaves unchanged. -/

namespace Sys2Proof.Machine

open Sys2Proof

/-! ## The invariant -/

/-- An L1 cache as R47 describes it: at most 128 entries, addresses unique, RAM addresses only. -/
def Cache.wf (e : Cache) (cfg : Config) : Prop :=
  e.length ≤ cacheMax ∧ (e.map Prod.fst).Nodup ∧ ∀ x ∈ e, regionOf cfg x.1 = .ram

/-- Every pending IRQ has a route (R477). -/
def IcState.routed (ic : IcState) : Prop := ∀ i : Irq, ic.pending.getLsbD i.val = true → ic.route[i] ≠ none

/-- Storage and breakpoint set are in canonical form, every cache is as R47 says, every pending IRQ has a route. -/
def State.Inv (s : State) : Prop :=
  s.mem.wf ∧ (∀ p ∈ s.cpus, p.cache.wf s.cfg) ∧ s.ic.routed ∧ s.breakpoints.Pairwise fun x y => x < y

/-- The computer has a CPU, and every CPU a core (R7). -/
def State.populated (s : State) : Prop := s.cpus ≠ [] ∧ ∀ p ∈ s.cpus, p.cores ≠ []

/-- Every cached byte is the stored byte: no read is stale (R112, R113). -/
def State.Coherent (s : State) : Prop := ∀ p ∈ s.cpus, ∀ x ∈ p.cache, x.2 = s.mem.read x.1.toNat

/-- A RAM write invalidates every cache there is: the scope is ALL_CPUS, or there is one CPU (R110, R113). -/
def State.invalidatesAll (s : State) : Prop := s.cfg.invalidateScope = .allCpus ∨ s.numCpus ≤ 1

/-! ## Run states -/

/-- The four states of a core (R42, R213). -/
inductive RunState where
  /-- `halted` is true. -/
  | halted
  /-- A breakpoint is recorded and the CPU is paused. -/
  | waitingOnBreakpoint
  /-- Inside a handler. -/
  | handlingInterrupt
  /-- The remaining cases. -/
  | running
deriving DecidableEq, Repr

/-- The run state of a core (R42). R42's conditions for the two middle states overlap; a core that meets both is waiting
(log 16). -/
def State.runState (s : State) (id : CoreId) : RunState :=
  if (s.core id).halted then .halted
  else if (s.core id).currentBreakpoint.isSome && (s.cpu id.cpu).paused then .waitingOnBreakpoint
  else if (s.core id).inHandler then .handlingInterrupt
  else .running

/-- The normal end of a run: every core is halted or belongs to a halted CPU (R493). -/
def State.Ended (s : State) : Prop := ∀ p ∈ s.cpus, p.halted = true ∨ ∀ m ∈ p.cores, m.halted = true

/-- A warning or an error, as against a device write (R12). -/
def Event.isReport : Event → Bool
  | .unknownOpcode _ _ _ _ => true
  | .romWrite _ _ => true
  | .invalidIrq _ => true
  | .routeUnrequested _ _ _ => true
  | .deviceWrite _ _ _ => false

/-- No warning and no error so far (R214). -/
def State.Quiet (s : State) : Prop := ∀ e ∈ s.events, e.isReport = false

/-! ## What an instruction leaves unchanged -/

/-- Every CPU reads every address as before. -/
def ReadsKept (s t : State) : Prop := ∀ (c : Nat) (a : Word), (t.busRead c a).1 = (s.busRead c a).1

/-- The machine has the same CPUs and cores (R30). -/
def ShapeKept (s t : State) : Prop :=
  t.numCpus = s.numCpus ∧ ∀ c, (t.cpu c).cores.length = (s.cpu c).cores.length

/-- The parameters, the breakpoint set, the schedule and the executing core's name are as before. -/
def SettingKept (s t : State) : Prop :=
  t.cfg = s.cfg ∧ t.breakpoints = s.breakpoints ∧ t.self = s.self ∧ t.host = s.host ∧ t.turn = s.turn

/-- The CPUs' own run states are as before. -/
def CpuFlagsKept (s t : State) : Prop := ∀ c, (t.cpu c).halted = (s.cpu c).halted ∧ (t.cpu c).paused = (s.cpu c).paused

/-- The caches are as before. -/
def CachesKept (s t : State) : Prop := ∀ c, (t.cpu c).cache = (s.cpu c).cache

/-- The interrupt controller, the host-visible events and the device oracle are as before. -/
def DevicesKept (s t : State) : Prop := t.ic = s.ic ∧ t.events = s.events ∧ t.oracleDraws = s.oracleDraws

/-- Every core but those of `ids` is as before. -/
def CoresKeptBut (s t : State) (ids : List CoreId) : Prop := ∀ id, id ∉ ids → t.core id = s.core id

/-- Nothing but cores and the CPUs' own run states has changed: every byte reads as before, and every cache, the
interrupt controller, the events and the setting are as before. -/
def MachineKept (s t : State) : Prop :=
  ReadsKept s t ∧ t.mem = s.mem ∧ ShapeKept s t ∧ SettingKept s t ∧ CachesKept s t ∧ DevicesKept s t

/-- The executing core becomes `m`, and nothing else changes. -/
def BecomesOnly (s t : State) (m : CoreState) : Prop :=
  t.me = m ∧ CoresKeptBut s t [s.self] ∧ CpuFlagsKept s t ∧ MachineKept s t

/-- FLAGS after an ALU result: Z in bit 1, C in bit 0, bits 7:2 as before (R34, R240). -/
def flagsAfter (f result : Byte) (carry : Bool) : Byte :=
  (f &&& 0xFC#8) ||| (if result = 0#8 then 0x02#8 else 0x00#8) ||| (if carry then 0x01#8 else 0x00#8)

/-- An ALU instruction of length `len`: `result` to the destination if it has one, Z and C to FLAGS, PC advanced, and
nothing else changed (R253). -/
def AluEffect (s t : State) (dst : Option Reg) (result : Byte) (carry : Bool) (len : Nat) : Prop :=
  BecomesOnly s t
    { dst.elim s.me (fun r => s.me.setReg r result) with
      flags := flagsAfter s.me.flags result carry
      pc := s.me.pc + BitVec.ofNat 16 len }

/-- The address is storage, not an I/O port (R101). -/
def isStorage (cfg : Config) (a : Word) : Prop := a ≤ cfg.romEnd ∨ a < ioBase

/-- Outside the addresses `stored`, every byte of storage is as before and every CPU reads it as before. -/
def StorageKeptOutside (s t : State) (stored : List Word) : Prop :=
  (∀ n : Nat, (∀ a ∈ stored, a.toNat ≠ n) → t.mem.read n = s.mem.read n) ∧
    ∀ (c : Nat) (a : Word), a ∉ stored → isStorage s.cfg a → (t.busRead c a).1 = (s.busRead c a).1

/-- What a load, a pop or a return leaves: every byte of storage, every core but the executing one, the CPUs' run states,
the interrupt controller, the events and the setting. (A read may fill or evict a cache entry, R105.) -/
def LoadKeeps (s t : State) : Prop :=
  (∀ n, t.mem.read n = s.mem.read n) ∧ CoresKeptBut s t [s.self] ∧ ShapeKept s t ∧ CpuFlagsKept s t ∧ SettingKept s t ∧
    t.ic = s.ic ∧ t.events = s.events

/-- The caches are as before but for entries of the addresses `stored`, which may be gone. -/
def CachesKeptOutside (s t : State) (stored : List Word) : Prop :=
  ∀ c, (t.cpu c).cache.Sublist (s.cpu c).cache ∧ ∀ x ∈ (s.cpu c).cache, x.1 ∉ stored → x ∈ (t.cpu c).cache

/-- What a store to the addresses `stored` leaves: every other byte of storage, every cache entry of another address, every
core but the executing one, the CPUs' run states, the oracle and the setting; the interrupt controller if it stores to no
I/O address, and the events if it stores to RAM only. -/
def StoreKeeps (s t : State) (stored : List Word) : Prop :=
  StorageKeptOutside s t stored ∧ CoresKeptBut s t [s.self] ∧ ShapeKept s t ∧ CpuFlagsKept s t ∧ SettingKept s t ∧
    CachesKeptOutside s t stored ∧ t.oracleDraws = s.oracleDraws ∧ ((∀ a ∈ stored, isStorage s.cfg a) → t.ic = s.ic) ∧
    ((∀ a ∈ stored, regionOf s.cfg a = .ram) → t.events = s.events)

/-- The 2-bit register code of REF_MAP (R165). -/
def regCode (r : Reg) : Byte :=
  match r with
  | .a => 0#8
  | .b => 1#8
  | .c => 2#8
  | .d => 3#8

/-- REF_MAP gives the instruction the opcode byte `code`, its length is `len`, and the decoder reads it back (R162, R166). -/
def EncodedAs (i : Instr) (code : Byte) (len : Nat) : Prop :=
  i.code = code ∧ i.length = len ∧ decode [] (code :: i.operandBytes) = .ok (i, [])

/-- The instruction's opcode byte is one of an ALU instruction's: INC, DEC, NOT, or 0x40 to 0xDB (R166, R253). -/
def isAluKind (i : Instr) : Bool :=
  (decide (0x18#8 ≤ i.code) && decide (i.code ≤ 0x23#8)) || (decide (0x40#8 ≤ i.code) && decide (i.code ≤ 0xDB#8))

end Sys2Proof.Machine
end

