-- ==== Sys2Proof/Certificates/Slice0/Obligations.lean ====
section
/-! DEFINITION. The statements for the provers. `s.hasCore s.self` says that the executing core exists, which every step
sees to; each statement's docstring names the rules of spec/ it formalises. -/

open Sys2Proof Sys2Proof.Machine

/-! ## Encoding -/

/-- A few words, laid out from REF_MAP (R166), read as the instructions they stand for; 0xFF is no instruction.
REF_MAP is the spec's decision D1. -/
def Obligations.RefMapWordsDecode : Prop :=
  decodeTableWord 8 0x00 = some .nop ∧ decodeTableWord 16 0x0524 = some (.movAImm 0x05#8) ∧
    decodeTableWord 8 0x46 = some .addBC ∧ decodeTableWord 8 0x1B = some .incD ∧
    decodeTableWord 24 0x00040B = some (.jnz 0x0004#16) ∧ decodeTableWord 24 0x20002D = some (.movMemB 0x2000#16) ∧
    decodeTableWord 16 0x01D9 = some (.rorBImm 0x01#8) ∧ decodeTableWord 8 0xE9 = some .cpuSetPc ∧
    decodeTableWord 8 0xFF = none

/-- Decoding the bytes of an instruction gives it back, under every OPCODE_MAP, whatever follows (R160, R161, R164). -/
def Obligations.DecodeUndoesEncode : Prop :=
  ∀ (m : OpcodeMap) (i : Instr) (bytes rest : List Byte), encodeWith m i = some bytes →
    decode m (bytes ++ rest) = .ok (i, rest)

/-- What the decoder accepts is an opcode byte of the instruction's kind, then its operand bytes; the opcode byte alone
fixes the length, which is 1, 2 or 3 (R160, R161). -/
def Obligations.DecodedBytesAreTheEncoding : Prop :=
  ∀ (m : OpcodeMap) (i : Instr) (bytes rest : List Byte), decode m bytes = .ok (i, rest) →
    ∃ b0, bytes = b0 :: (i.operandBytes ++ rest) ∧ m.kindOf b0 = some i.code ∧ opcodeLength m b0 = i.length ∧
      (i.length = 1 ∨ i.length = 2 ∨ i.length = 3)

/-- The bytes REF_MAP leaves unassigned are 0x0F, 0xDC to 0xDF and 0xEA to 0xFF (R167). REF_MAP is the spec's decision
D1. -/
def Obligations.UnassignedBytesOfRefMap : Prop :=
  ∀ (b : Byte) (rest : List Byte), decode [] (b :: rest) = .error (.unknownOpcode b) ↔
    b = 0x0F#8 ∨ (0xDC#8 ≤ b ∧ b ≤ 0xDF#8) ∨ 0xEA#8 ≤ b

/-! ## Registers and the ALU -/

/-- ADD, both forms: the sum modulo 256, the carry of a sum above 255 (R241, R254, R255). -/
def Obligations.AddWritesSumAndCarry : Prop :=
  ∀ (s : State) (dst src r : Reg) (imm : Byte), s.hasCore s.self →
    (EncodedAs (.addRegReg dst src) (0x40#8 ||| (regCode dst <<< 2) ||| regCode src) 1 ∧
      ∃ t, exec (.addRegReg dst src) s = .next t ∧
        AluEffect s t (some dst) (BitVec.ofNat 8 ((s.me.reg dst).toNat + (s.me.reg src).toNat))
          (decide (255 < (s.me.reg dst).toNat + (s.me.reg src).toNat)) 1) ∧
    (EncodedAs (.addRegImm r imm) (0xB0#8 ||| regCode r) 2 ∧
      ∃ t, exec (.addRegImm r imm) s = .next t ∧
        AluEffect s t (some r) (BitVec.ofNat 8 ((s.me.reg r).toNat + imm.toNat))
          (decide (255 < (s.me.reg r).toNat + imm.toNat)) 2)

/-- SUB, both forms: the difference modulo 256, the carry of a borrow (R242, R256, R257). -/
def Obligations.SubWritesDifferenceAndBorrow : Prop :=
  ∀ (s : State) (dst src r : Reg) (imm : Byte), s.hasCore s.self →
    (EncodedAs (.subRegReg dst src) (0x50#8 ||| (regCode dst <<< 2) ||| regCode src) 1 ∧
      ∃ t, exec (.subRegReg dst src) s = .next t ∧
        AluEffect s t (some dst) (s.me.reg dst - s.me.reg src) (decide ((s.me.reg dst).toNat < (s.me.reg src).toNat)) 1) ∧
    (EncodedAs (.subRegImm r imm) (0xB4#8 ||| regCode r) 2 ∧
      ∃ t, exec (.subRegImm r imm) s = .next t ∧
        AluEffect s t (some r) (s.me.reg r - imm) (decide ((s.me.reg r).toNat < imm.toNat)) 2)

/-- AND, OR and XOR, both forms: the bitwise result, carry 0 (R243-R245, R258-R263). -/
def Obligations.LogicWritesResultAndClearsCarry : Prop :=
  ∀ (s : State) (dst src r : Reg) (imm : Byte), s.hasCore s.self →
    (EncodedAs (.andRegReg dst src) (0x60#8 ||| (regCode dst <<< 2) ||| regCode src) 1 ∧
      ∃ t, exec (.andRegReg dst src) s = .next t ∧ AluEffect s t (some dst) (s.me.reg dst &&& s.me.reg src) false 1) ∧
    (EncodedAs (.andRegImm r imm) (0xB8#8 ||| regCode r) 2 ∧
      ∃ t, exec (.andRegImm r imm) s = .next t ∧ AluEffect s t (some r) (s.me.reg r &&& imm) false 2) ∧
    (EncodedAs (.orRegReg dst src) (0x70#8 ||| (regCode dst <<< 2) ||| regCode src) 1 ∧
      ∃ t, exec (.orRegReg dst src) s = .next t ∧ AluEffect s t (some dst) (s.me.reg dst ||| s.me.reg src) false 1) ∧
    (EncodedAs (.orRegImm r imm) (0xBC#8 ||| regCode r) 2 ∧
      ∃ t, exec (.orRegImm r imm) s = .next t ∧ AluEffect s t (some r) (s.me.reg r ||| imm) false 2) ∧
    (EncodedAs (.xorRegReg dst src) (0x80#8 ||| (regCode dst <<< 2) ||| regCode src) 1 ∧
      ∃ t, exec (.xorRegReg dst src) s = .next t ∧ AluEffect s t (some dst) (s.me.reg dst ^^^ s.me.reg src) false 1) ∧
    (EncodedAs (.xorRegImm r imm) (0xC0#8 ||| regCode r) 2 ∧
      ∃ t, exec (.xorRegImm r imm) s = .next t ∧ AluEffect s t (some r) (s.me.reg r ^^^ imm) false 2)

/-- CMP and TEST, both forms: the flags of SUB and AND, no register written (R264-R267). -/
def Obligations.CompareAndTestWriteFlagsOnly : Prop :=
  ∀ (s : State) (dst src r : Reg) (imm : Byte), s.hasCore s.self →
    (EncodedAs (.cmpRegReg dst src) (0x90#8 ||| (regCode dst <<< 2) ||| regCode src) 1 ∧
      ∃ t, exec (.cmpRegReg dst src) s = .next t ∧
        AluEffect s t none (s.me.reg dst - s.me.reg src) (decide ((s.me.reg dst).toNat < (s.me.reg src).toNat)) 1) ∧
    (EncodedAs (.cmpRegImm r imm) (0xC4#8 ||| regCode r) 2 ∧
      ∃ t, exec (.cmpRegImm r imm) s = .next t ∧
        AluEffect s t none (s.me.reg r - imm) (decide ((s.me.reg r).toNat < imm.toNat)) 2) ∧
    (EncodedAs (.testRegReg dst src) (0xA0#8 ||| (regCode dst <<< 2) ||| regCode src) 1 ∧
      ∃ t, exec (.testRegReg dst src) s = .next t ∧ AluEffect s t none (s.me.reg dst &&& s.me.reg src) false 1) ∧
    (EncodedAs (.testRegImm r imm) (0xC8#8 ||| regCode r) 2 ∧
      ∃ t, exec (.testRegImm r imm) s = .next t ∧ AluEffect s t none (s.me.reg r &&& imm) false 2)

/-- INC, DEC and NOT: the result modulo 256, carry always 0 (R246-R248, R268-R270). The carry of NOT is the spec's
decision D6. -/
def Obligations.IncDecNotClearCarry : Prop :=
  ∀ (s : State) (r : Reg), s.hasCore s.self →
    (EncodedAs (.incReg r) (0x18#8 ||| regCode r) 1 ∧
      ∃ t, exec (.incReg r) s = .next t ∧ AluEffect s t (some r) (s.me.reg r + 1) false 1) ∧
    (EncodedAs (.decReg r) (0x1C#8 ||| regCode r) 1 ∧
      ∃ t, exec (.decReg r) s = .next t ∧ AluEffect s t (some r) (s.me.reg r - 1) false 1) ∧
    (EncodedAs (.notReg r) (0x20#8 ||| regCode r) 1 ∧
      ∃ t, exec (.notReg r) s = .next t ∧ AluEffect s t (some r) (~~~(s.me.reg r)) false 1)

/-- SHL and SHR by the immediate: the carry is the last bit shifted out, 0 for a count of 0 or above 8 (R249, R250,
R271, R272). The closed form is what R249 and R250 mark [derived]; the carry of a count of 0 is decision D7. -/
def Obligations.ShiftsKeepTheLastBitOut : Prop :=
  ∀ (s : State) (r : Reg) (imm : Byte), s.hasCore s.self →
    (EncodedAs (.shlRegImm r imm) (0xCC#8 ||| regCode r) 2 ∧
      ∃ t, exec (.shlRegImm r imm) s = .next t ∧
        AluEffect s t (some r) (s.me.reg r <<< imm.toNat)
          (decide (1 ≤ imm.toNat ∧ imm.toNat ≤ 8) && (s.me.reg r).getLsbD (8 - imm.toNat)) 2) ∧
    (EncodedAs (.shrRegImm r imm) (0xD0#8 ||| regCode r) 2 ∧
      ∃ t, exec (.shrRegImm r imm) s = .next t ∧
        AluEffect s t (some r) (s.me.reg r >>> imm.toNat)
          (decide (1 ≤ imm.toNat ∧ imm.toNat ≤ 8) && (s.me.reg r).getLsbD (imm.toNat - 1)) 2)

/-- ROL and ROR by the immediate rotate the 9-bit pair of the carry flag (bit 8) and the register (R251, R252, R273,
R274). The 9-bit pair is what R251 and R252 mark [derived]; a count of 0 is decision D7. -/
def Obligations.RotatesTurnTheNineBitPair : Prop :=
  ∀ (s : State) (r : Reg) (imm : Byte), s.hasCore s.self →
    let pair : BitVec 9 := BitVec.ofBool (s.me.flags.getLsbD 0) ++ s.me.reg r
    (EncodedAs (.rolRegImm r imm) (0xD4#8 ||| regCode r) 2 ∧
      ∃ t, exec (.rolRegImm r imm) s = .next t ∧
        AluEffect s t (some r) ((pair.rotateLeft imm.toNat).setWidth 8) ((pair.rotateLeft imm.toNat).getLsbD 8) 2) ∧
    (EncodedAs (.rorRegImm r imm) (0xD8#8 ||| regCode r) 2 ∧
      ∃ t, exec (.rorRegImm r imm) s = .next t ∧
        AluEffect s t (some r) ((pair.rotateRight imm.toNat).setWidth 8) ((pair.rotateRight imm.toNat).getLsbD 8) 2)

/-- A rotate right with the carry a rotate left produced, by the same count, restores value and carry (R252). The
source says it for counts 0 to 8; for every count it is what R252 marks [derived]. -/
def Obligations.RotateRightUndoesRotateLeft : Prop :=
  ∀ (v : Byte) (n : Nat) (c : Bool),
    (aluRor (aluRol v n c).result n (aluRol v n c).c).result = v ∧ (aluRor (aluRol v n c).result n (aluRol v n c).c).c = c

/-- Outside the ALU instructions and IRET no instruction changes FLAGS, and an ALU instruction leaves bits 7:2 (R35,
R253). These are the spec's decisions D8 and D47. -/
def Obligations.FlagsChangeOnlyByAluAndIret : Prop :=
  ∀ (i : Instr) (s t : State), s.hasCore s.self → exec i s = .next t → i ≠ .iret →
    (isAluKind i = false → t.me.flags = s.me.flags) ∧
      (isAluKind i = true → t.me.flags &&& 0xFC#8 = s.me.flags &&& 0xFC#8)

/-! ## Data transfer and the stack -/

/-- MOV between registers, MOV of an immediate and SET_SP (R302, R303, R308). -/
def Obligations.MovesWriteTheirDestination : Prop :=
  ∀ (s : State) (dst src r : Reg) (imm : Byte) (w : Word), s.hasCore s.self →
    (EncodedAs (.movRegReg dst src) (0x30#8 ||| (regCode dst <<< 2) ||| regCode src) 1 ∧
      ∃ t, exec (.movRegReg dst src) s = .next t ∧
        BecomesOnly s t { s.me.setReg dst (s.me.reg src) with pc := s.me.pc + 1 }) ∧
    (EncodedAs (.movRegImm r imm) (0x24#8 ||| regCode r) 2 ∧
      ∃ t, exec (.movRegImm r imm) s = .next t ∧ BecomesOnly s t { s.me.setReg r imm with pc := s.me.pc + 2 }) ∧
    (EncodedAs (.setSp w) 0x0E#8 3 ∧
      ∃ t, exec (.setSp w) s = .next t ∧ BecomesOnly s t { s.me with sp := w, pc := s.me.pc + 3 })

/-- MOV_r_MEM reads one byte at its address, and PC advances by 3 (R304). -/
def Obligations.LoadReadsItsAddress : Prop :=
  ∀ (s : State) (r : Reg) (a : Word), s.hasCore s.self →
    EncodedAs (.movRegMem r a) (0x28#8 ||| regCode r) 3 ∧
      ∃ t, exec (.movRegMem r a) s = .next t ∧
        t.me = { s.me.setReg r (s.memRead a).1 with pc := s.me.pc + 3 } ∧
        t = (s.memRead a).2.updMe fun _ => t.me

/-- MOV_MEM_r writes one byte at its address, and PC advances by 3 (R305). -/
def Obligations.StoreWritesItsAddress : Prop :=
  ∀ (s : State) (r : Reg) (a : Word), s.hasCore s.self →
    EncodedAs (.movMemReg r a) (0x2C#8 ||| regCode r) 3 ∧
      ∃ t, exec (.movMemReg r a) s = .next t ∧
        t.me = { s.me with pc := s.me.pc + 3 } ∧ t = (s.memWrite a (s.me.reg r)).updMe fun _ => t.me

/-- PUSH writes at SP and then decrements it; POP increments SP and then reads (R300, R301, R306, R307). That SP is
the next free byte is the spec's decision D9. -/
def Obligations.PushAndPopMoveTheStackPointer : Prop :=
  ∀ (s : State) (r : Reg), s.hasCore s.self →
    (EncodedAs (.pushReg r) (0x10#8 ||| regCode r) 1 ∧
      ∃ t, exec (.pushReg r) s = .next t ∧ t.me = { s.me with sp := s.me.sp - 1, pc := s.me.pc + 1 } ∧
        t = (s.memWrite s.me.sp (s.me.reg r)).updMe fun _ => t.me) ∧
    (EncodedAs (.popReg r) (0x14#8 ||| regCode r) 1 ∧
      ∃ t, exec (.popReg r) s = .next t ∧
        t.me = { s.me.setReg r (s.memRead (s.me.sp + 1)).1 with sp := s.me.sp + 1, pc := s.me.pc + 1 } ∧
        t = (s.memRead (s.me.sp + 1)).2.updMe fun _ => t.me)

/-- MOV_MEM_r, PUSH and CALL: what they leave unchanged of storage, caches, cores, controller and events (`StoreKeeps`). The
addresses stored to are the operand, SP, and SP with SP - 1. -/
def Obligations.StoresLeaveTheRest : Prop :=
  ∀ (s t : State) (r : Reg) (a : Word), s.hasCore s.self →
    (exec (.movMemReg r a) s = .next t → StoreKeeps s t [a]) ∧
    (exec (.pushReg r) s = .next t → StoreKeeps s t [s.me.sp]) ∧
    (exec (.call a) s = .next t → StoreKeeps s t [s.me.sp, s.me.sp - 1])

/-- MOV_r_MEM, POP, RET and IRET store nothing: every byte of storage, every other core, the interrupt controller and the
events are as before. -/
def Obligations.LoadsLeaveTheRest : Prop :=
  ∀ (s t : State) (r : Reg) (a : Word), s.hasCore s.self →
    (exec (.movRegMem r a) s = .next t ∨ exec (.popReg r) s = .next t ∨ exec .ret s = .next t ∨ exec .iret s = .next t) →
      LoadKeeps s t

/-! ## Control transfer -/

/-- JMP, JZ, JNZ, JC, JNC: the absolute target, or PC + 3 (R341-R345). -/
def Obligations.JumpsFollowTheirFlag : Prop :=
  ∀ (s : State) (w : Word), s.hasCore s.self →
    (EncodedAs (.jmp w) 0x09#8 3 ∧ ∃ t, exec (.jmp w) s = .next t ∧ BecomesOnly s t { s.me with pc := w }) ∧
    (EncodedAs (.jz w) 0x0A#8 3 ∧ ∃ t, exec (.jz w) s = .next t ∧
      BecomesOnly s t { s.me with pc := if s.me.flags.getLsbD 1 = true then w else s.me.pc + 3 }) ∧
    (EncodedAs (.jnz w) 0x0B#8 3 ∧ ∃ t, exec (.jnz w) s = .next t ∧
      BecomesOnly s t { s.me with pc := if s.me.flags.getLsbD 1 = false then w else s.me.pc + 3 }) ∧
    (EncodedAs (.jc w) 0x0C#8 3 ∧ ∃ t, exec (.jc w) s = .next t ∧
      BecomesOnly s t { s.me with pc := if s.me.flags.getLsbD 0 = true then w else s.me.pc + 3 }) ∧
    (EncodedAs (.jnc w) 0x0D#8 3 ∧ ∃ t, exec (.jnc w) s = .next t ∧
      BecomesOnly s t { s.me with pc := if s.me.flags.getLsbD 0 = false then w else s.me.pc + 3 })

/-- CALL pushes PC + 3, high byte first, and jumps; RET pops the low and then the high byte of PC (R346, R347). The
stack convention and the push order are the spec's decisions D9 and D10. -/
def Obligations.CallPushesAndReturnPops : Prop :=
  ∀ (s : State) (w : Word), s.hasCore s.self →
    (EncodedAs (.call w) 0x08#8 3 ∧ ∃ t, exec (.call w) s = .next t ∧
      t.me = { s.me with sp := s.me.sp - 2, pc := w } ∧
      t = ((s.memWrite s.me.sp (hiByte (s.me.pc + 3))).memWrite (s.me.sp - 1) (loByte (s.me.pc + 3))).updMe fun _ => t.me) ∧
    (EncodedAs .ret 0x07#8 1 ∧ ∃ t, exec .ret s = .next t ∧
      (let lo := s.memRead (s.me.sp + 1)
       let hi := lo.2.memRead (s.me.sp + 2)
       t.me = { s.me with sp := s.me.sp + 2, pc := w16 lo.1 hi.1 } ∧ t = hi.2.updMe fun _ => t.me))

/-- A CALL whose stack is RAM and the RET that follows it leave every register but PC as before the CALL, and PC after
the CALL instruction (R347, C3). That PC stands after the CALL is the reading of conflict C3. -/
def Obligations.ReturnUndoesCall : Prop :=
  ∀ (s t : State) (w : Word), s.Inv → s.hasCore s.self → regionOf s.cfg s.me.sp = .ram →
    regionOf s.cfg (s.me.sp - 1) = .ram → exec (.call w) s = .next t →
      ∃ u, exec .ret t = .next u ∧ u.me = { s.me with pc := s.me.pc + 3 }

/-- IRET pops PC low, PC high and FLAGS, enables interrupts and leaves the handler, inside a handler or not (R348). -/
def Obligations.InterruptReturnRestoresContext : Prop :=
  ∀ s : State, s.hasCore s.self →
    EncodedAs .iret 0x06#8 1 ∧ ∃ t, exec .iret s = .next t ∧
      (let lo := s.memRead (s.me.sp + 1)
       let hi := lo.2.memRead (s.me.sp + 2)
       let fl := hi.2.memRead (s.me.sp + 3)
       t.me = { s.me with sp := s.me.sp + 3, pc := w16 lo.1 hi.1, flags := fl.1, ie := true, inHandler := false } ∧
         t = fl.2.updMe fun _ => t.me)

/-! ## System instructions -/

/-- NOP, HALT, EI and DI (R380, R381, R384, R385). NOP, EI and DI are the spec's decision D3. -/
def Obligations.SystemFlagsOfTheCore : Prop :=
  ∀ s : State, s.hasCore s.self →
    (EncodedAs .nop 0x00#8 1 ∧ ∃ t, exec .nop s = .next t ∧ BecomesOnly s t { s.me with pc := s.me.pc + 1 }) ∧
    (EncodedAs .halt 0x01#8 1 ∧ ∃ t, exec .halt s = .next t ∧
      BecomesOnly s t { s.me with halted := true, pc := s.me.pc + 1 }) ∧
    (EncodedAs .ei 0x04#8 1 ∧ ∃ t, exec .ei s = .next t ∧
      BecomesOnly s t { s.me with ie := true, pc := s.me.pc + 1 }) ∧
    (EncodedAs .di 0x05#8 1 ∧ ∃ t, exec .di s = .next t ∧
      BecomesOnly s t { s.me with ie := false, pc := s.me.pc + 1 })

/-- SYSCALL (R382): 0 on core 0 of a CPU clears the program region of RAM and every cache and goes to OS_START; 0 on
another core halts it, PC + 2; any other operand is what SYSCALL_OTHER says, refused or a service, whose answer is free.
The clear, the halt's PC and the refusal are the spec's decisions D17 to D19; what a service can touch is the model's
choice (log 10, log 12). -/
def Obligations.SyscallExitsHaltsOrRefuses : Prop :=
  ∀ s : State, s.hasCore s.self →
    (∀ n : Byte, EncodedAs (.syscall n) 0x02#8 2) ∧
    (s.self.core = 0 → ∃ t, exec (.syscall 0#8) s = .next t ∧ t.me = { s.me with pc := s.cfg.osStart } ∧
      (∀ a : Word, t.mem.read a.toNat =
        if s.cfg.programStart ≤ a ∧ a ≤ s.cfg.programEnd ∧ regionOf s.cfg a = .ram then 0#8 else s.mem.read a.toNat) ∧
      (∀ c, (t.cpu c).cache = []) ∧ CoresKeptBut s t [s.self] ∧ ShapeKept s t ∧ CpuFlagsKept s t ∧ SettingKept s t ∧
      DevicesKept s t) ∧
    (s.self.core ≠ 0 → ∃ t, exec (.syscall 0#8) s = .next t ∧
      BecomesOnly s t { s.me with halted := true, pc := s.me.pc + 2 }) ∧
    ∀ n : Byte, n ≠ 0#8 →
      (n ∉ s.cfg.syscallOther → exec (.syscall n) s = .refused (.syscallOther n s.self.cpu s.self.core s.me.pc)) ∧
      (n ∈ s.cfg.syscallOther → ∃ t, exec (.syscall n) s = .next t ∧
        (let x := Config.serviceAnswer s.oracleDraws n
         t.me = { s.me with a := x.a, b := x.b, c := x.c, d := x.d, pc := x.pc } ∧
         t = (State.access x.accesses s.drawn).updMe fun _ => t.me) ∧
        CoresKeptBut s t [s.self] ∧ ShapeKept s t ∧ CpuFlagsKept s t ∧ SettingKept s t)

/-- BREAKPOINT (R383): at the recorded address it clears the record and PC advances; else it records PC, pauses the CPU
and leaves PC. -/
def Obligations.BreakpointRecordsThenPasses : Prop :=
  ∀ s : State, s.hasCore s.self → EncodedAs .breakpoint 0x03#8 1 ∧
    (s.me.currentBreakpoint = some s.me.pc → ∃ t, exec .breakpoint s = .next t ∧
      BecomesOnly s t { s.me with currentBreakpoint := none, pc := s.me.pc + 1 }) ∧
    (s.me.currentBreakpoint ≠ some s.me.pc → ∃ t, exec .breakpoint s = .next t ∧
      t.me = { s.me with currentBreakpoint := some s.me.pc } ∧ CoresKeptBut s t [s.self] ∧ MachineKept s t ∧
      ∀ c, (t.cpu c).halted = (s.cpu c).halted ∧
        (t.cpu c).paused = if c = s.self.cpu then true else (s.cpu c).paused)

/-! ## Multi-core control -/

/-- CORE_COUNT, CPU_COUNT, CORE_STATUS and CPU_STATUS answer in A (R422, R423, R427, R428). That A takes the answer is
the spec's decision D20. -/
def Obligations.CountsAndStatusAnswerInA : Prop :=
  ∀ s : State, s.hasCore s.self →
    (EncodedAs .coreCount 0xE0#8 1 ∧ ∃ t, exec .coreCount s = .next t ∧
      BecomesOnly s t { s.me with a := BitVec.ofNat 8 s.numCores, pc := s.me.pc + 1 }) ∧
    (EncodedAs .cpuCount 0xE5#8 1 ∧ ∃ t, exec .cpuCount s = .next t ∧
      BecomesOnly s t { s.me with a := BitVec.ofNat 8 s.numCpus, pc := s.me.pc + 1 }) ∧
    (EncodedAs .coreStatus 0xE1#8 1 ∧ (s.me.a.toNat < s.numCores → ∃ t, exec .coreStatus s = .next t ∧
      BecomesOnly s t { s.me with
        a := if (s.core ⟨s.self.cpu, s.me.a.toNat⟩).halted = true then 1#8 else 0#8, pc := s.me.pc + 1 })) ∧
    (EncodedAs .cpuStatus 0xE6#8 1 ∧ (s.me.a.toNat < s.numCpus → ∃ t, exec .cpuStatus s = .next t ∧
      BecomesOnly s t { s.me with
        a := if (s.cpu s.me.a.toNat).halted = true then 1#8 else 0#8, pc := s.me.pc + 1 }))

/-- CORE_START and CORE_HALT set the target core's `halted` flag alone; PC advances by 1 unless the target is the
executing core itself (R424, R425). -/
def Obligations.CoreStartAndHaltSetTheTarget : Prop :=
  ∀ s : State, s.hasCore s.self → s.me.a.toNat < s.numCores →
    EncodedAs .coreStart 0xE2#8 1 ∧ EncodedAs .coreHalt 0xE3#8 1 ∧
    ∀ (i : Instr) (b : Bool), (i = .coreStart ∧ b = false) ∨ (i = .coreHalt ∧ b = true) →
      let target : CoreId := ⟨s.self.cpu, s.me.a.toNat⟩
      ∃ t, exec i s = .next t ∧ MachineKept s t ∧ CpuFlagsKept s t ∧ CoresKeptBut s t [s.self, target] ∧
        (target = s.self → t.me = { s.me with halted := b }) ∧
        (target ≠ s.self → t.me = { s.me with pc := s.me.pc + 1 } ∧
          t.core target = { s.core target with halted := b })

/-- CPU_START and CPU_HALT set the target CPU's own flag alone; PC advances by 1 unless the target is the executing core's
own CPU (R429, R430). -/
def Obligations.CpuStartAndHaltSetTheTarget : Prop :=
  ∀ s : State, s.hasCore s.self → s.me.a.toNat < s.numCpus →
    EncodedAs .cpuStart 0xE7#8 1 ∧ EncodedAs .cpuHalt 0xE8#8 1 ∧
    ∀ (i : Instr) (b : Bool), (i = .cpuStart ∧ b = false) ∨ (i = .cpuHalt ∧ b = true) →
      ∃ t, exec i s = .next t ∧ MachineKept s t ∧ CoresKeptBut s t [s.self] ∧
        t.me = (if s.me.a.toNat = s.self.cpu then s.me else { s.me with pc := s.me.pc + 1 }) ∧
        ∀ c, (t.cpu c).paused = (s.cpu c).paused ∧
          (t.cpu c).halted = if c = s.me.a.toNat then b else (s.cpu c).halted

/-- CORE_SET_PC and CPU_SET_PC write D:C to the PC of a halted target, a core of this CPU or core 0 of a CPU; a
running target is left as it is, and PC advances by 1 in every case (R426, R431). The executing core is not halted, as
in every core-cycle that executes (R203), and it is not core 0 of a halted target CPU. These are the spec's decisions
D22 and D23. -/
def Obligations.SetPcWritesHaltedTargetsOnly : Prop :=
  ∀ s : State, s.hasCore s.self → s.me.halted = false →
    EncodedAs .coreSetPc 0xE4#8 1 ∧ EncodedAs .cpuSetPc 0xE9#8 1 ∧
    (s.me.a.toNat < s.numCores →
      let target : CoreId := ⟨s.self.cpu, s.me.a.toNat⟩
      ∃ t, exec .coreSetPc s = .next t ∧ MachineKept s t ∧ CpuFlagsKept s t ∧ CoresKeptBut s t [s.self, target] ∧
        t.me = { s.me with pc := s.me.pc + 1 } ∧
        (target ≠ s.self → t.core target =
          if (s.core target).halted = true then { s.core target with pc := w16 s.me.c s.me.d } else s.core target)) ∧
    (s.me.a.toNat < s.numCpus →
      let target : CoreId := ⟨s.me.a.toNat, 0⟩
      s.hasCore target → (target = s.self → (s.cpu s.me.a.toNat).halted = false) →
      ∃ t, exec .cpuSetPc s = .next t ∧ MachineKept s t ∧ CpuFlagsKept s t ∧ CoresKeptBut s t [s.self, target] ∧
        t.me = { s.me with pc := s.me.pc + 1 } ∧
        (target ≠ s.self → t.core target =
          if (s.cpu s.me.a.toNat).halted = true then { s.core target with pc := w16 s.me.c s.me.d }
          else s.core target))

/-- No instruction faults, and an instruction is refused exactly where the spec refuses it: SYSCALL with an operand
other than 0 that SYSCALL_OTHER refuses, and a multi-core operation whose target index in A is not below the count (R420, R466). Everywhere else
it answers a next state. The refusals are the spec's decisions D17 and D21 (log 10). -/
def Obligations.StopsOnlyWhereTheSpecRefuses : Prop :=
  ∀ (i : Instr) (s : State),
    let onCore := i = .coreStatus ∨ i = .coreStart ∨ i = .coreHalt ∨ i = .coreSetPc
    let onCpu := i = .cpuStatus ∨ i = .cpuStart ∨ i = .cpuHalt ∨ i = .cpuSetPc
    (∀ n : Byte, i = .syscall n → n ≠ 0#8 → n ∉ s.cfg.syscallOther →
      exec i s = .refused (.syscallOther n s.self.cpu s.self.core s.me.pc)) ∧
    (onCore → s.numCores ≤ s.me.a.toNat → exec i s = .refused (.targetOutOfRange .core s.me.a.toNat)) ∧
    (onCpu → s.numCpus ≤ s.me.a.toNat → exec i s = .refused (.targetOutOfRange .cpu s.me.a.toNat)) ∧
    ((∀ n : Byte, i = .syscall n → n = 0#8 ∨ n ∈ s.cfg.syscallOther) → (onCore → s.me.a.toNat < s.numCores) →
      (onCpu → s.me.a.toNat < s.numCpus) → ∃ t, exec i s = .next t)

/-! ## Memory, bus and cache -/

/-- MemRead, region by region: ROM and a cache miss give the stored byte, a hit the cached byte, and only a miss changes the
cache (R105). An I/O address gives what its slot answers: the interrupt controller its port, a host device a free byte,
a slot with no device EMPTY_SLOT_READ (R107). The last two are the spec's decisions D35 and D36; the draw is log 5. -/
def Obligations.ReadsGoByRegion : Prop :=
  ∀ (s : State) (c : Nat) (a : Word),
    (a ≤ s.cfg.romEnd → s.busRead c a = (s.mem.read a.toNat, s)) ∧
    (s.cfg.romEnd < a → ioBase ≤ a →
      let slot := (a.toNat - 0xFF00) / 16
      let port := (a.toNat - 0xFF00) % 16
      (slot = s.cfg.icSlot → s.busRead c a = (s.ic.readPort port, s)) ∧
      (slot ≠ s.cfg.icSlot → slot ∈ s.cfg.hostDevices →
        s.busRead c a = (Config.deviceAnswer s.oracleDraws slot port, { s with oracleDraws := s.oracleDraws + 1 })) ∧
      (slot ≠ s.cfg.icSlot → slot ∉ s.cfg.hostDevices → s.busRead c a = (s.cfg.emptySlotRead, s))) ∧
    (s.cfg.romEnd < a → a < ioBase →
      (∀ v, (s.cpu c).cache.lookup a = some v → s.busRead c a = (v, s)) ∧
      ((s.cpu c).cache.lookup a = none → s.busRead c a =
        (s.mem.read a.toNat, s.modifyCpu c fun p => { p with cache := p.cache.insert a (s.mem.read a.toNat) })))

/-- A write to ROM changes nothing but that a warning with its address and value is logged (R106, R463). -/
def Obligations.RomWriteIsDroppedWithWarning : Prop :=
  ∀ (s : State) (c : Nat) (a : Word) (v : Byte), a ≤ s.cfg.romEnd →
    s.busWrite c a v = { s with events := s.events ++ [.romWrite a v] }

/-- After a RAM write by a core of CPU `c`, that CPU reads the written byte there, and every other address of storage
reads as before, for every CPU (R112, part of what it marks [derived]). The write invalidates the address in the caches
INVALIDATE_SCOPE says and leaves the others (R110), and changes nothing else, the events included (R106). The scope is
the spec's decision D37. -/
def Obligations.RamWriteIsReadBack : Prop :=
  ∀ (s : State) (c : Nat) (a : Word) (v : Byte), s.Inv → c < s.numCpus → regionOf s.cfg a = .ram →
    ((s.busWrite c a v).busRead c a).1 = v ∧ (s.busWrite c a v).mem.read a.toNat = v ∧
      StorageKeptOutside s (s.busWrite c a v) [a] ∧
      (s.cfg.invalidateScope = .ownCpu → ∀ d, ((s.busWrite c a v).cpu d).cache =
        if d = c then (s.cpu d).cache.invalidate a else (s.cpu d).cache) ∧
      (s.cfg.invalidateScope = .allCpus → ∀ d, ((s.busWrite c a v).cpu d).cache = (s.cpu d).cache.invalidate a) ∧
      CoresKeptBut s (s.busWrite c a v) [] ∧ ShapeKept s (s.busWrite c a v) ∧ CpuFlagsKept s (s.busWrite c a v) ∧
      SettingKept s (s.busWrite c a v) ∧ DevicesKept s (s.busWrite c a v)

/-- The I/O window is sixteen slots of sixteen ports (R104). -/
def Obligations.IoAddressesAreSlotsAndPorts : Prop :=
  ∀ (cfg : Config) (slot port : Nat), cfg.romEnd < ioBase → slot < 16 → port < 16 →
    regionOf cfg (BitVec.ofNat 16 (0xFF00 + 16 * slot + port)) = .io slot port

/-- A cache insertion appends, and past 128 entries evicts exactly the oldest; an invalidation removes the one address,
the others keeping their order (R109, R110). -/
def Obligations.CacheIsFirstInFirstOut : Prop :=
  ∀ (e : Cache) (a : Word) (v : Byte),
    (e.length < 128 → e.insert a v = e ++ [(a, v)]) ∧ (e.length = 128 → e.insert a v = e.tail ++ [(a, v)]) ∧
      (e.invalidate a).Sublist e ∧ ∀ x, x ∈ e.invalidate a ↔ x ∈ e ∧ x.1 ≠ a

/-- Where a RAM write invalidates every cache there is, no step makes a cached byte differ from the stored one, and
while none differs every RAM read gives the stored byte (R112, R113). It is what R112 and R113 mark [derived]. -/
def Obligations.CachesStayCoherent : Prop :=
  (∀ s t : State, s.invalidatesAll → s.Coherent → step s = .next t → t.invalidatesAll ∧ t.Coherent) ∧
    ∀ (s : State) (c : Nat) (a : Word), s.Coherent → regionOf s.cfg a = .ram →
      (s.busRead c a).1 = s.mem.read a.toNat

/-- No step changes the parameters, among them the memory map, and no step changes a byte of ROM (R49, R103, R106). -/
def Obligations.MapAndRomNeverChange : Prop :=
  ∀ s t : State, step s = .next t →
    t.cfg = s.cfg ∧ ShapeKept s t ∧ ∀ a : Word, a ≤ s.cfg.romEnd → t.mem.read a.toNat = s.mem.read a.toNat

/-! ## The interrupt controller -/

/-- A write to an I/O address goes to its slot: to the port of the interrupt controller, to a host device as a recorded
event, or nowhere (R106, R107). Then the ports of the interrupt controller, read and written, but for the writes of ports
6 and 7 (R467-R472, R474). Ports 1, 2 and 6 to 15 rest on the spec's decisions D30 and D31, the slots with and without a
device on D35 and D36 (log 6). -/
def Obligations.ControllerPortsReadAndWrite : Prop :=
  ∀ (s : State) (c : Nat) (a : Word) (v : Byte),
    (s.cfg.romEnd < a → ioBase ≤ a →
      let slot := (a.toNat - 0xFF00) / 16
      let port := (a.toNat - 0xFF00) % 16
      (slot = s.cfg.icSlot → s.busWrite c a v = s.writeIcPort port v) ∧
      (slot ≠ s.cfg.icSlot → slot ∈ s.cfg.hostDevices →
        s.busWrite c a v = { s with events := s.events ++ [.deviceWrite slot port v] }) ∧
      (slot ≠ s.cfg.icSlot → slot ∉ s.cfg.hostDevices → s.busWrite c a v = s)) ∧
    (s.ic.readPort 0 = s.ic.enabled ∧ s.ic.readPort 1 = s.ic.pending &&& ~~~s.ic.mask ∧ s.ic.readPort 2 = 0#8 ∧
      s.ic.readPort 3 = s.ic.mask ∧ w16 (s.ic.readPort 4) (s.ic.readPort 5) = s.ic.handlerAddr ∧
      s.ic.readPort 6 = 0#8 ∧ s.ic.readPort 7 = 0#8 ∧ ∀ q, 8 ≤ q → s.ic.readPort q = 0#8) ∧
    (s.writeIcPort 0 v = { s with ic := { s.ic with enabled := v } } ∧ s.writeIcPort 1 v = s ∧
      s.writeIcPort 2 v = { s with ic := { s.ic with pending := s.ic.pending &&& ~~~(1#8 <<< (v.toNat % 8)) } } ∧
      s.writeIcPort 3 v = { s with ic := { s.ic with mask := v } } ∧
      s.writeIcPort 4 v = { s with ic := { s.ic with handlerAddr := w16 v (hiByte s.ic.handlerAddr) } } ∧
      s.writeIcPort 5 v = { s with ic := { s.ic with handlerAddr := w16 (loByte s.ic.handlerAddr) v } } ∧
      ∀ q, 8 ≤ q → s.writeIcPort q v = s)

/-- A write to routing port 6 or 7. Reference layout: the IRQ in the high nibble, the index in the low one; an IRQ above 7
and an IRQ without a route are warned of and ignored. Alternative layout: port 6 selects the IRQ, port 7 carries both
indices (R464, R465, R473). The layouts are the spec's decision D32. -/
def Obligations.RoutingWritesOneIndex : Prop :=
  ∀ (s : State) (v : Byte),
    (s.cfg.routePorts = .irqNibblePerPort → ∀ port : Nat, port = 6 ∨ port = 7 →
      (8 ≤ v.toNat / 16 → s.writeIcPort port v = { s with events := s.events ++ [.invalidIrq (v.toNat / 16)] }) ∧
      ∀ i : Irq, v.toNat / 16 = i.val →
        (s.ic.route[i] = none → s.writeIcPort port v = { s with events := s.events ++ [.routeUnrequested i port v] }) ∧
        ∀ r : Route, s.ic.route[i] = some r →
          (s.writeIcPort port v).ic.route[i] =
            some (if port = 6 then { r with cpu := v.setWidth 4 } else { r with core := v.setWidth 4 }) ∧
          (∀ j : Irq, j ≠ i → (s.writeIcPort port v).ic.route[j] = s.ic.route[j]) ∧
          s.writeIcPort port v = { s with ic := { s.ic with route := (s.writeIcPort port v).ic.route } }) ∧
    (s.cfg.routePorts = .selectThenNibbles →
      s.writeIcPort 6 v = { s with ic := { s.ic with routeSelect := v.setWidth 3 } } ∧
      ∀ i : Irq, s.ic.routeSelect.toNat = i.val →
        (s.ic.route[i] = none → s.writeIcPort 7 v = { s with events := s.events ++ [.routeUnrequested i 7 v] }) ∧
        (s.ic.route[i] ≠ none →
          (s.writeIcPort 7 v).ic.route[i] = some { cpu := (v >>> 4).setWidth 4, core := v.setWidth 4 } ∧
          (∀ j : Irq, j ≠ i → (s.writeIcPort 7 v).ic.route[j] = s.ic.route[j]) ∧
          s.writeIcPort 7 v = { s with ic := { s.ic with route := (s.writeIcPort 7 v).ic.route } }))

/-- requestInterrupt sets one pending bit and gives an IRQ without a route the route to core 0 of CPU 0; a number above 7 is
warned of and ignored (R464, R475). -/
def Obligations.RequestSetsPendingAndRoute : Prop :=
  ∀ (s : State) (n : Nat),
    (8 ≤ n → s.requestInterrupt n = { s with events := s.events ++ [.invalidIrq n] }) ∧
    ∀ i : Irq, n = i.val →
      (∀ j : Irq, (s.requestInterrupt n).ic.pending.getLsbD j.val = (decide (j = i) || s.ic.pending.getLsbD j.val)) ∧
      (∀ j : Irq, (s.requestInterrupt n).ic.route[j] =
        if j = i ∧ s.ic.route[j] = none then some { cpu := 0#4, core := 0#4 } else s.ic.route[j]) ∧
      s.requestInterrupt n = { s with ic := { s.ic with
        pending := (s.requestInterrupt n).ic.pending, route := (s.requestInterrupt n).ic.route } }

/-- An IRQ is deliverable to a core when it is pending, enabled and not masked, and is not routed to another core (R477);
acknowledging it clears its pending bit alone (R476). -/
def Obligations.DeliverableAndAcknowledge : Prop :=
  ∀ (ic : IcState) (id : CoreId) (i : Irq),
    (ic.deliverable id i = true ↔
      ic.pending.getLsbD i.val = true ∧ ic.enabled.getLsbD i.val = true ∧ ic.mask.getLsbD i.val = false ∧
        ∀ r, ic.route[i] = some r → r.cpu.toNat = id.cpu ∧ r.core.toNat = id.core) ∧
    (∀ j : Irq, (ic.acknowledge i).pending.getLsbD j.val = (!decide (j = i) && ic.pending.getLsbD j.val)) ∧
    ic.acknowledge i = { ic with pending := (ic.acknowledge i).pending }

/-- selectIrq: the lowest IRQ deliverable to the core, or under LOWEST_THEN_ROUTE the lowest pending, enabled and
unmasked IRQ if its route lets the core take it (R478). The order is the spec's decision D33. -/
def Obligations.SelectsTheLowestIrq : Prop :=
  ∀ (s : State) (id : CoreId) (i : Irq),
    (s.cfg.irqSelect = .filterThenLowest →
      (s.selectIrq id = some i ↔
        s.ic.deliverable id i = true ∧ ∀ j : Irq, j < i → s.ic.deliverable id j = false)) ∧
    (s.cfg.irqSelect = .lowestThenRoute →
      (s.selectIrq id = some i ↔
        s.ic.deliverable id i = true ∧ ∀ j : Irq, j < i → s.ic.active.getLsbD j.val = false))

/-- No core sets a pending bit: a CPU-cycle of any CPU only clears some (R469, R489). It is what R469 and R489 mark
[derived]. -/
def Obligations.OnlyTheHostSetsPending : Prop :=
  ∀ (c : Nat) (b : Bool) (s t : State), cpuCycle c b s = .next t →
    ∀ i : Irq, t.ic.pending.getLsbD i.val = true → s.ic.pending.getLsbD i.val = true

/-! ## Taking an interrupt -/

/-- An interrupt entry whose stack is RAM (R481): FLAGS, PC high and PC low at SP, SP - 1 and SP - 2, SP - 3,
interrupts off, inside a handler, the IRQ acknowledged, PC at the handler; nothing else changes in storage, in the
cores or in the controller. Where the bytes stand is the spec's decision D9. -/
def Obligations.InterruptEntrySavesContext : Prop :=
  ∀ (s : State) (i : Irq), s.Inv → s.hasCore s.self → s.ic.handlerAddr ≠ 0#16 → regionOf s.cfg s.me.sp = .ram →
    regionOf s.cfg (s.me.sp - 1) = .ram → regionOf s.cfg (s.me.sp - 2) = .ram →
    ∃ t, interruptEntry i s = .next t ∧
      t.me = { s.me with ie := false, inHandler := true, sp := s.me.sp - 3, pc := s.ic.handlerAddr } ∧
      t.mem.read s.me.sp.toNat = s.me.flags ∧ t.mem.read (s.me.sp - 1).toNat = hiByte s.me.pc ∧
      t.mem.read (s.me.sp - 2).toNat = loByte s.me.pc ∧
      StorageKeptOutside s t [s.me.sp, s.me.sp - 1, s.me.sp - 2] ∧ t.ic = s.ic.acknowledge i ∧
      t.events = s.events ∧ t.oracleDraws = s.oracleDraws ∧ CoresKeptBut s t [s.self] ∧ ShapeKept s t ∧
      CpuFlagsKept s t ∧ SettingKept s t

/-- With a handler address of 0, the same entry is Fatal ZeroHandler, after the pushes and the acknowledgement and
before PC is written (R462, R481). When the check happens is the spec's decision D43 (log 9). -/
def Obligations.ZeroHandlerIsFatal : Prop :=
  ∀ (s : State) (i : Irq), s.Inv → s.hasCore s.self → s.ic.handlerAddr = 0#16 → regionOf s.cfg s.me.sp = .ram →
    regionOf s.cfg (s.me.sp - 1) = .ram → regionOf s.cfg (s.me.sp - 2) = .ram →
    ∃ t, interruptEntry i s = .fault (.zeroHandler i s.self.cpu s.self.core t) ∧
      t.me = { s.me with ie := false, inHandler := true, sp := s.me.sp - 3 } ∧
      t.mem.read s.me.sp.toNat = s.me.flags ∧ t.mem.read (s.me.sp - 1).toNat = hiByte s.me.pc ∧
      t.mem.read (s.me.sp - 2).toNat = loByte s.me.pc ∧ t.ic = s.ic.acknowledge i

/-- IRET right after an interrupt entry gives the executing core back exactly as it was, where the stack is RAM (R348,
R483). It is what R483 marks [derived]. -/
def Obligations.InterruptReturnUndoesEntry : Prop :=
  ∀ (s t : State) (i : Irq), s.Inv → s.hasCore s.self → s.me.ie = true → s.me.inHandler = false →
    regionOf s.cfg s.me.sp = .ram → regionOf s.cfg (s.me.sp - 1) = .ram → regionOf s.cfg (s.me.sp - 2) = .ram →
    interruptEntry i s = .next t → ∃ u, exec .iret t = .next u ∧ u.me = s.me

/-! ## The core-cycle and the step -/

/-- A core-cycle checks in order: a halted core does nothing; else an unrecorded global breakpoint at PC stops the core and
pauses its CPU, if it is not paused; else an interrupt the core takes is entered; else one instruction is fetched and
executed (R203, R205, R207). A core whose recorded breakpoint is at PC is the matter of `RecordedBreakpointIsPassed`. That a
recorded breakpoint does not stop the core again is the spec's decision D14. -/
def Obligations.CoreCycleChecksInOrder : Prop :=
  ∀ (s : State) (id : CoreId),
    let m := s.core id
    let passes := m.pc ∉ s.breakpoints ∨ ((s.cpu id.cpu).paused = true ∧ m.currentBreakpoint ≠ some m.pc)
    (m.halted = true → coreCycle id s = .next s) ∧
    (m.halted = false → m.pc ∈ s.breakpoints → m.currentBreakpoint ≠ some m.pc → (s.cpu id.cpu).paused = false →
      s.hasCore id → ∃ t, coreCycle id s = .next t ∧ t.core id = { m with currentBreakpoint := some m.pc } ∧
        (t.cpu id.cpu).paused = true ∧ t.mem = s.mem ∧ t.ic = s.ic ∧ t.events = s.events ∧ CachesKept s t ∧
        CoresKeptBut s t [id]) ∧
    (m.halted = false → passes → m.ie = true → m.inHandler = false →
      ∀ i, s.selectIrq id = some i → coreCycle id s = interruptEntry i (s.focus id)) ∧
    (m.halted = false → passes → (m.ie = false ∨ m.inHandler = true ∨ s.selectIrq id = none) →
      coreCycle id s = fetchExecute (s.focus id))

/-- A core whose recorded breakpoint is the global breakpoint at PC passes it: the record is cleared and the same
core-cycle goes on (R206). The rule is the spec's decision D13. -/
def Obligations.RecordedBreakpointIsPassed : Prop :=
  ∀ (s : State) (id : CoreId), s.hasCore id → (s.core id).halted = false → (s.core id).pc ∈ s.breakpoints →
    (s.core id).currentBreakpoint = some (s.core id).pc →
      ∃ u, u.core id = { s.core id with currentBreakpoint := none } ∧
        u = (s.focus id).updMe (fun _ => u.core id) ∧ coreCycle id s = interruptOrExecute u

/-- An unknown opcode halts the core with PC + 1 and logs its address and byte; the cycle is counted and nothing else
of the core changes (R210, R461). That PC + 1 is committed is the reading of conflict C1. -/
def Obligations.UnknownOpcodeHaltsTheCore : Prop :=
  ∀ (s : State) (id : CoreId), s.hasCore id → (s.core id).halted = false → (s.core id).pc ∉ s.breakpoints →
    (s.focus id).takes = none →
    let byte := ((s.focus id).memRead (s.core id).pc).1
    decode s.cfg.opcodeMap [byte, 0#8, 0#8] = .error (.unknownOpcode byte) →
      ∃ t, coreCycle id s = .next t ∧
        t.core id = { s.core id with
          halted := true, pc := (s.core id).pc + 1, ir := byte, cycleCount := (s.core id).cycleCount + 1 } ∧
        t.events = s.events ++ [.unknownOpcode id.cpu id.core (s.core id).pc byte] ∧
        t.mem = s.mem ∧ t.ic = s.ic ∧ CoresKeptBut s t [id] ∧ CpuFlagsKept s t

/-- When the bytes read at PC decode to an instruction, the step executes that instruction on the state after its
bytes are fetched, and then runs the other cores of the CPU. The CPU is the one the next host action ticks, and its
core 0 runs, stands at no breakpoint and takes no interrupt (R163, R200, R208). What one step is, and which CPU it
ticks, is the model's choice (log 1, log 2). -/
def Obligations.StepRunsTheDecodedInstruction : Prop :=
  ∀ (s : State) (c n : Nat) (i : Instr), s.nextAction.1 = .tick c → s.hasCore ⟨c, 0⟩ →
    (s.cpu c).halted = false → (s.cpu c).paused = false → (s.core ⟨c, 0⟩).halted = false →
    (s.core ⟨c, 0⟩).pc ∉ s.breakpoints →
    let u := s.nextAction.2.focus ⟨c, 0⟩
    u.takes = none →
    let opcode := u.fetchOpcode
    let operands := opcode.memReadBytes n ((s.core ⟨c, 0⟩).pc + 1)
    decode s.cfg.opcodeMap (opcode.me.ir :: operands.1) = .ok (i, []) →
      step s = thenRun (exec i operands.2) (coreCycles c ((List.range (s.cpu c).cores.length).drop 1))

/-- Where no cached byte differs from the stored one, the fetch reads the stored program: the instruction is the one
the stored bytes at PC decode to, the fetch changes IR and the cycle count of the core, and storage is as before
(R122, R163, R208). It is part of what R122 marks [derived]. -/
def Obligations.FetchReadsTheStoredProgram : Prop :=
  ∀ (s : State) (i : Instr) (rest : List Byte), s.Coherent → s.hasCore s.self →
    (∀ k : Nat, k < 3 → isStorage s.cfg (s.me.pc + BitVec.ofNat 16 k)) →
    let stored := fun k : Nat => s.mem.read (s.me.pc + BitVec.ofNat 16 k).toNat
    decode s.cfg.opcodeMap [stored 0, stored 1, stored 2] = .ok (i, rest) →
      s.fetch.1 = .ok i ∧
        s.fetch.2.me = { s.me with ir := stored 0, cycleCount := s.me.cycleCount + 1 } ∧ s.fetch.2.mem = s.mem ∧
        s.fetch.2.ic = s.ic ∧ s.fetch.2.events = s.events ∧ CoresKeptBut s s.fetch.2 [s.self]

/-- A CPU-cycle runs one core-cycle of each core in index order, and does nothing if the CPU is halted, or is paused
and the pause is not ignored (R200). That the flags are checked at the top only is the spec's decision D24. -/
def Obligations.CpuCycleRunsCoresInOrder : Prop :=
  ∀ (c : Nat) (ignorePause : Bool) (s : State),
    cpuCycle c ignorePause s =
      if (s.cpu c).halted = true then .next s
      else if (s.cpu c).paused = true ∧ ignorePause = false then .next s
      else (List.range (s.cpu c).cores.length).foldl (fun r k => thenRun r (coreCycle ⟨c, k⟩)) (.next s)

/-- The host's actions (R492, R475): what each does to the machine, taken from the head of the script. The script of
actions is the model's choice (log 2, log 13). -/
def Obligations.HostActionsTakeEffect : Prop :=
  ∀ (s : State) (rest : List HostAction) (c n : Nat) (l : List Word),
    let u := { s with host := rest }
    (s.host = .tick c :: rest → step s = cpuCycle c false u) ∧
    (s.host = .debugStep c :: rest → step s = cpuCycle c true u) ∧
    (s.host = .pause c :: rest → step s = .next (u.modifyCpu c fun p => { p with paused := true })) ∧
    (s.host = .resume c :: rest → step s = .next (u.modifyCpu c fun p => { p with paused := false })) ∧
    (s.host = .setBreakpoints l :: rest → ∃ t, step s = .next t ∧ (∀ a, a ∈ t.breakpoints ↔ a ∈ l) ∧
      t = { u with breakpoints := t.breakpoints }) ∧
    (s.host = .requestInterrupt n :: rest → step s = .next (u.requestInterrupt n))

/-- The registers and control state of a core are its own: another core's cycle changes none of them but `halted`, and
PC only of a core that is halted or whose CPU is halted (R40, C7). The exception for PC is the reading of conflict C7.
-/
def Obligations.RegisterFilesArePrivate : Prop :=
  ∀ (s t : State) (id other : CoreId), coreCycle id s = .next t → other ≠ id →
    t.core other = { s.core other with halted := (t.core other).halted, pc := (t.core other).pc } ∧
      ((t.core other).pc ≠ (s.core other).pc → (s.core other).halted = true ∨ (s.cpu other.cpu).halted = true)

/-- The cycle count of a core counts the core-cycles in which it fetches: not a halted cycle, a breakpoint stop or an
interrupt entry (R203, R207). What is counted is the spec's decision D40. -/
def Obligations.CycleCountCountsFetches : Prop :=
  ∀ (s t : State) (id : CoreId), s.hasCore id → coreCycle id s = .next t →
    (t.core id).cycleCount = (s.core id).cycleCount +
      (if (s.core id).halted = true ∨ (s.focus id).stopsHere = true ∨ (s.focus id).takes ≠ none then 0 else 1)

/-- After the normal end of a run no CPU-cycle changes anything (R493). What ends a run is the spec's decision D49. -/
def Obligations.EndedRunStaysEnded : Prop :=
  ∀ (s : State) (c : Nat), s.Ended → s.nextAction.1 = .tick c ∨ s.nextAction.1 = .debugStep c →
    step s = .next s.nextAction.2

/-- Every step keeps the invariant: canonical storage, caches as R47 says, a route for every pending IRQ, a canonical
breakpoint set (R47, R477). That a pending IRQ has a route is what R477 marks [derived]. -/
def Obligations.StepKeepsTheInvariant : Prop := ∀ s t : State, s.Inv → step s = .next t → t.Inv

/-! ## Reset -/

/-- The invariant holds at reset. -/
def Obligations.InvariantHoldsAtReset : Prop := State.reset.Inv

/-- The values the spec gives for launch, for every choice of the parameters, of the CPUs and cores, of the loaded
storage and of the breakpoint set (R41, R43, R46, R53, R540), and with at least one CPU and a core of each CPU there is
always one (R7). Many of the values are the spec's decisions D12, D26, D34, D51 and D52. -/
def Obligations.LaunchGivesTheResetValues : Prop :=
  ∀ (cfg : Config) (shape : List CpuShape) (image : Memory) (breakpoints : List Word),
    let s := State.launch cfg shape image breakpoints
    s.mem = image ∧ s.breakpoints = breakpoints ∧ s.cfg = cfg ∧ s.numCpus = shape.length ∧
    (shapeWf shape = true → s.populated) ∧
    (s.ic.enabled = 0#8 ∧ s.ic.pending = 0#8 ∧ s.ic.mask = 0#8 ∧ s.ic.handlerAddr = 0#16 ∧ s.ic.routeSelect = 0#3 ∧
      ∀ i : Irq, s.ic.route[i] = none) ∧
    (∀ c p, shape[c]? = some p →
      (s.cpu c).halted = p.halted ∧ (s.cpu c).paused = false ∧ (s.cpu c).cache = [] ∧
      ∀ k h, p.coresHalted[k]? = some h → s.hasCore ⟨c, k⟩ ∧
        s.core ⟨c, k⟩ =
          { a := 0#8, b := 0#8, c := 0#8, d := 0#8, ir := 0#8, flags := 0#8, pc := cfg.resetVector, sp := 0#16,
            halted := h, ie := true, inHandler := false, currentBreakpoint := none, cycleCount := 0 })
end

