-- ==== Sys2Proof/Laws/State.lean ====
section
/-! SUPPORT. One lemma per field per update of the state and of a core, so that no proof unfolds a record update. -/

namespace Sys2Proof.Machine

open Sys2Proof

/-! ## State.modifyCpu -/

@[simp] theorem State.modifyCpu_cfg (s : State) (c : Nat) (f : CpuState → CpuState) : (s.modifyCpu c f).cfg = s.cfg := rfl
@[simp] theorem State.modifyCpu_mem (s : State) (c : Nat) (f : CpuState → CpuState) : (s.modifyCpu c f).mem = s.mem := rfl
@[simp] theorem State.modifyCpu_breakpoints (s : State) (c : Nat) (f : CpuState → CpuState) : (s.modifyCpu c f).breakpoints = s.breakpoints := rfl
@[simp] theorem State.modifyCpu_ic (s : State) (c : Nat) (f : CpuState → CpuState) : (s.modifyCpu c f).ic = s.ic := rfl
@[simp] theorem State.modifyCpu_events (s : State) (c : Nat) (f : CpuState → CpuState) : (s.modifyCpu c f).events = s.events := rfl
@[simp] theorem State.modifyCpu_self (s : State) (c : Nat) (f : CpuState → CpuState) : (s.modifyCpu c f).self = s.self := rfl
@[simp] theorem State.modifyCpu_host (s : State) (c : Nat) (f : CpuState → CpuState) : (s.modifyCpu c f).host = s.host := rfl
@[simp] theorem State.modifyCpu_turn (s : State) (c : Nat) (f : CpuState → CpuState) : (s.modifyCpu c f).turn = s.turn := rfl
@[simp] theorem State.modifyCpu_oracleDraws (s : State) (c : Nat) (f : CpuState → CpuState) : (s.modifyCpu c f).oracleDraws = s.oracleDraws := rfl

/-! ## State.modifyCore -/

@[simp] theorem State.modifyCore_cfg (s : State) (id : CoreId) (f : CoreState → CoreState) : (s.modifyCore id f).cfg = s.cfg := rfl
@[simp] theorem State.modifyCore_mem (s : State) (id : CoreId) (f : CoreState → CoreState) : (s.modifyCore id f).mem = s.mem := rfl
@[simp] theorem State.modifyCore_breakpoints (s : State) (id : CoreId) (f : CoreState → CoreState) : (s.modifyCore id f).breakpoints = s.breakpoints := rfl
@[simp] theorem State.modifyCore_ic (s : State) (id : CoreId) (f : CoreState → CoreState) : (s.modifyCore id f).ic = s.ic := rfl
@[simp] theorem State.modifyCore_events (s : State) (id : CoreId) (f : CoreState → CoreState) : (s.modifyCore id f).events = s.events := rfl
@[simp] theorem State.modifyCore_self (s : State) (id : CoreId) (f : CoreState → CoreState) : (s.modifyCore id f).self = s.self := rfl
@[simp] theorem State.modifyCore_host (s : State) (id : CoreId) (f : CoreState → CoreState) : (s.modifyCore id f).host = s.host := rfl
@[simp] theorem State.modifyCore_turn (s : State) (id : CoreId) (f : CoreState → CoreState) : (s.modifyCore id f).turn = s.turn := rfl
@[simp] theorem State.modifyCore_oracleDraws (s : State) (id : CoreId) (f : CoreState → CoreState) : (s.modifyCore id f).oracleDraws = s.oracleDraws := rfl

/-! ## State.updMe -/

@[simp] theorem State.updMe_cfg (s : State) (f : CoreState → CoreState) : (s.updMe f).cfg = s.cfg := rfl
@[simp] theorem State.updMe_mem (s : State) (f : CoreState → CoreState) : (s.updMe f).mem = s.mem := rfl
@[simp] theorem State.updMe_breakpoints (s : State) (f : CoreState → CoreState) : (s.updMe f).breakpoints = s.breakpoints := rfl
@[simp] theorem State.updMe_ic (s : State) (f : CoreState → CoreState) : (s.updMe f).ic = s.ic := rfl
@[simp] theorem State.updMe_events (s : State) (f : CoreState → CoreState) : (s.updMe f).events = s.events := rfl
@[simp] theorem State.updMe_self (s : State) (f : CoreState → CoreState) : (s.updMe f).self = s.self := rfl
@[simp] theorem State.updMe_host (s : State) (f : CoreState → CoreState) : (s.updMe f).host = s.host := rfl
@[simp] theorem State.updMe_turn (s : State) (f : CoreState → CoreState) : (s.updMe f).turn = s.turn := rfl
@[simp] theorem State.updMe_oracleDraws (s : State) (f : CoreState → CoreState) : (s.updMe f).oracleDraws = s.oracleDraws := rfl

/-! ## State.focus -/

@[simp] theorem State.focus_cfg (s : State) (id : CoreId) : (s.focus id).cfg = s.cfg := rfl
@[simp] theorem State.focus_cpus (s : State) (id : CoreId) : (s.focus id).cpus = s.cpus := rfl
@[simp] theorem State.focus_mem (s : State) (id : CoreId) : (s.focus id).mem = s.mem := rfl
@[simp] theorem State.focus_breakpoints (s : State) (id : CoreId) : (s.focus id).breakpoints = s.breakpoints := rfl
@[simp] theorem State.focus_ic (s : State) (id : CoreId) : (s.focus id).ic = s.ic := rfl
@[simp] theorem State.focus_events (s : State) (id : CoreId) : (s.focus id).events = s.events := rfl
@[simp] theorem State.focus_host (s : State) (id : CoreId) : (s.focus id).host = s.host := rfl
@[simp] theorem State.focus_turn (s : State) (id : CoreId) : (s.focus id).turn = s.turn := rfl
@[simp] theorem State.focus_oracleDraws (s : State) (id : CoreId) : (s.focus id).oracleDraws = s.oracleDraws := rfl

/-! ## State.log -/

@[simp] theorem State.log_cfg (s : State) (e : Event) : (s.log e).cfg = s.cfg := rfl
@[simp] theorem State.log_cpus (s : State) (e : Event) : (s.log e).cpus = s.cpus := rfl
@[simp] theorem State.log_mem (s : State) (e : Event) : (s.log e).mem = s.mem := rfl
@[simp] theorem State.log_breakpoints (s : State) (e : Event) : (s.log e).breakpoints = s.breakpoints := rfl
@[simp] theorem State.log_ic (s : State) (e : Event) : (s.log e).ic = s.ic := rfl
@[simp] theorem State.log_self (s : State) (e : Event) : (s.log e).self = s.self := rfl
@[simp] theorem State.log_host (s : State) (e : Event) : (s.log e).host = s.host := rfl
@[simp] theorem State.log_turn (s : State) (e : Event) : (s.log e).turn = s.turn := rfl
@[simp] theorem State.log_oracleDraws (s : State) (e : Event) : (s.log e).oracleDraws = s.oracleDraws := rfl

/-! ## State.clearCaches -/

@[simp] theorem State.clearCaches_cfg (s : State) : (s.clearCaches).cfg = s.cfg := rfl
@[simp] theorem State.clearCaches_mem (s : State) : (s.clearCaches).mem = s.mem := rfl
@[simp] theorem State.clearCaches_breakpoints (s : State) : (s.clearCaches).breakpoints = s.breakpoints := rfl
@[simp] theorem State.clearCaches_ic (s : State) : (s.clearCaches).ic = s.ic := rfl
@[simp] theorem State.clearCaches_events (s : State) : (s.clearCaches).events = s.events := rfl
@[simp] theorem State.clearCaches_self (s : State) : (s.clearCaches).self = s.self := rfl
@[simp] theorem State.clearCaches_host (s : State) : (s.clearCaches).host = s.host := rfl
@[simp] theorem State.clearCaches_turn (s : State) : (s.clearCaches).turn = s.turn := rfl
@[simp] theorem State.clearCaches_oracleDraws (s : State) : (s.clearCaches).oracleDraws = s.oracleDraws := rfl

/-! ## State.clearProgram -/

@[simp] theorem State.clearProgram_cfg (s : State) : (s.clearProgram).cfg = s.cfg := rfl
@[simp] theorem State.clearProgram_cpus (s : State) : (s.clearProgram).cpus = s.cpus := rfl
@[simp] theorem State.clearProgram_breakpoints (s : State) : (s.clearProgram).breakpoints = s.breakpoints := rfl
@[simp] theorem State.clearProgram_ic (s : State) : (s.clearProgram).ic = s.ic := rfl
@[simp] theorem State.clearProgram_events (s : State) : (s.clearProgram).events = s.events := rfl
@[simp] theorem State.clearProgram_self (s : State) : (s.clearProgram).self = s.self := rfl
@[simp] theorem State.clearProgram_host (s : State) : (s.clearProgram).host = s.host := rfl
@[simp] theorem State.clearProgram_turn (s : State) : (s.clearProgram).turn = s.turn := rfl
@[simp] theorem State.clearProgram_oracleDraws (s : State) : (s.clearProgram).oracleDraws = s.oracleDraws := rfl

/-! ## State.drawn -/

@[simp] theorem State.drawn_cfg (s : State) : (s.drawn).cfg = s.cfg := rfl
@[simp] theorem State.drawn_cpus (s : State) : (s.drawn).cpus = s.cpus := rfl
@[simp] theorem State.drawn_mem (s : State) : (s.drawn).mem = s.mem := rfl
@[simp] theorem State.drawn_breakpoints (s : State) : (s.drawn).breakpoints = s.breakpoints := rfl
@[simp] theorem State.drawn_ic (s : State) : (s.drawn).ic = s.ic := rfl
@[simp] theorem State.drawn_events (s : State) : (s.drawn).events = s.events := rfl
@[simp] theorem State.drawn_self (s : State) : (s.drawn).self = s.self := rfl
@[simp] theorem State.drawn_host (s : State) : (s.drawn).host = s.host := rfl
@[simp] theorem State.drawn_turn (s : State) : (s.drawn).turn = s.turn := rfl
@[simp] theorem State.drawn_oracleDraws (s : State) : (s.drawn).oracleDraws = s.oracleDraws + 1 := rfl

@[simp] theorem State.focus_self (s : State) (id : CoreId) : (s.focus id).self = id := rfl
@[simp] theorem State.log_events (s : State) (e : Event) : (s.log e).events = s.events ++ [e] := rfl

/-! ## CoreState.setReg -/

@[simp] theorem CoreState.setReg_ir (m : CoreState) (r : Reg) (v : Byte) : (m.setReg r v).ir = m.ir := by cases r <;> rfl
@[simp] theorem CoreState.setReg_flags (m : CoreState) (r : Reg) (v : Byte) : (m.setReg r v).flags = m.flags := by cases r <;> rfl
@[simp] theorem CoreState.setReg_pc (m : CoreState) (r : Reg) (v : Byte) : (m.setReg r v).pc = m.pc := by cases r <;> rfl
@[simp] theorem CoreState.setReg_sp (m : CoreState) (r : Reg) (v : Byte) : (m.setReg r v).sp = m.sp := by cases r <;> rfl
@[simp] theorem CoreState.setReg_halted (m : CoreState) (r : Reg) (v : Byte) : (m.setReg r v).halted = m.halted := by cases r <;> rfl
@[simp] theorem CoreState.setReg_ie (m : CoreState) (r : Reg) (v : Byte) : (m.setReg r v).ie = m.ie := by cases r <;> rfl
@[simp] theorem CoreState.setReg_inHandler (m : CoreState) (r : Reg) (v : Byte) : (m.setReg r v).inHandler = m.inHandler := by cases r <;> rfl
@[simp] theorem CoreState.setReg_currentBreakpoint (m : CoreState) (r : Reg) (v : Byte) : (m.setReg r v).currentBreakpoint = m.currentBreakpoint := by cases r <;> rfl
@[simp] theorem CoreState.setReg_cycleCount (m : CoreState) (r : Reg) (v : Byte) : (m.setReg r v).cycleCount = m.cycleCount := by cases r <;> rfl
@[simp] theorem CoreState.reg_setReg (m : CoreState) (r r' : Reg) (v : Byte) :
    (m.setReg r v).reg r' = if r' = r then v else m.reg r' := by cases r <;> cases r' <;> rfl

/-! ## CoreState.setFlags -/

@[simp] theorem CoreState.setFlags_a (m : CoreState) (z c : Bool) : (m.setFlags z c).a = m.a := rfl
@[simp] theorem CoreState.setFlags_b (m : CoreState) (z c : Bool) : (m.setFlags z c).b = m.b := rfl
@[simp] theorem CoreState.setFlags_c (m : CoreState) (z c : Bool) : (m.setFlags z c).c = m.c := rfl
@[simp] theorem CoreState.setFlags_d (m : CoreState) (z c : Bool) : (m.setFlags z c).d = m.d := rfl
@[simp] theorem CoreState.setFlags_ir (m : CoreState) (z c : Bool) : (m.setFlags z c).ir = m.ir := rfl
@[simp] theorem CoreState.setFlags_pc (m : CoreState) (z c : Bool) : (m.setFlags z c).pc = m.pc := rfl
@[simp] theorem CoreState.setFlags_sp (m : CoreState) (z c : Bool) : (m.setFlags z c).sp = m.sp := rfl
@[simp] theorem CoreState.setFlags_halted (m : CoreState) (z c : Bool) : (m.setFlags z c).halted = m.halted := rfl
@[simp] theorem CoreState.setFlags_ie (m : CoreState) (z c : Bool) : (m.setFlags z c).ie = m.ie := rfl
@[simp] theorem CoreState.setFlags_inHandler (m : CoreState) (z c : Bool) : (m.setFlags z c).inHandler = m.inHandler := rfl
@[simp] theorem CoreState.setFlags_currentBreakpoint (m : CoreState) (z c : Bool) : (m.setFlags z c).currentBreakpoint = m.currentBreakpoint := rfl
@[simp] theorem CoreState.setFlags_cycleCount (m : CoreState) (z c : Bool) : (m.setFlags z c).cycleCount = m.cycleCount := rfl
@[simp] theorem CoreState.setFlags_reg (m : CoreState) (z c : Bool) (r : Reg) : (m.setFlags z c).reg r = m.reg r := by cases r <;> rfl

/-! ## CoreState.advance -/

@[simp] theorem CoreState.advance_a (m : CoreState) (n : Nat) : (m.advance n).a = m.a := rfl
@[simp] theorem CoreState.advance_b (m : CoreState) (n : Nat) : (m.advance n).b = m.b := rfl
@[simp] theorem CoreState.advance_c (m : CoreState) (n : Nat) : (m.advance n).c = m.c := rfl
@[simp] theorem CoreState.advance_d (m : CoreState) (n : Nat) : (m.advance n).d = m.d := rfl
@[simp] theorem CoreState.advance_ir (m : CoreState) (n : Nat) : (m.advance n).ir = m.ir := rfl
@[simp] theorem CoreState.advance_flags (m : CoreState) (n : Nat) : (m.advance n).flags = m.flags := rfl
@[simp] theorem CoreState.advance_sp (m : CoreState) (n : Nat) : (m.advance n).sp = m.sp := rfl
@[simp] theorem CoreState.advance_halted (m : CoreState) (n : Nat) : (m.advance n).halted = m.halted := rfl
@[simp] theorem CoreState.advance_ie (m : CoreState) (n : Nat) : (m.advance n).ie = m.ie := rfl
@[simp] theorem CoreState.advance_inHandler (m : CoreState) (n : Nat) : (m.advance n).inHandler = m.inHandler := rfl
@[simp] theorem CoreState.advance_currentBreakpoint (m : CoreState) (n : Nat) : (m.advance n).currentBreakpoint = m.currentBreakpoint := rfl
@[simp] theorem CoreState.advance_cycleCount (m : CoreState) (n : Nat) : (m.advance n).cycleCount = m.cycleCount := rfl
@[simp] theorem CoreState.advance_reg (m : CoreState) (n : Nat) (r : Reg) : (m.advance n).reg r = m.reg r := by cases r <;> rfl

/-! ## CoreState.jump -/

@[simp] theorem CoreState.jump_a (m : CoreState) (t : Word) : (m.jump t).a = m.a := rfl
@[simp] theorem CoreState.jump_b (m : CoreState) (t : Word) : (m.jump t).b = m.b := rfl
@[simp] theorem CoreState.jump_c (m : CoreState) (t : Word) : (m.jump t).c = m.c := rfl
@[simp] theorem CoreState.jump_d (m : CoreState) (t : Word) : (m.jump t).d = m.d := rfl
@[simp] theorem CoreState.jump_ir (m : CoreState) (t : Word) : (m.jump t).ir = m.ir := rfl
@[simp] theorem CoreState.jump_flags (m : CoreState) (t : Word) : (m.jump t).flags = m.flags := rfl
@[simp] theorem CoreState.jump_sp (m : CoreState) (t : Word) : (m.jump t).sp = m.sp := rfl
@[simp] theorem CoreState.jump_halted (m : CoreState) (t : Word) : (m.jump t).halted = m.halted := rfl
@[simp] theorem CoreState.jump_ie (m : CoreState) (t : Word) : (m.jump t).ie = m.ie := rfl
@[simp] theorem CoreState.jump_inHandler (m : CoreState) (t : Word) : (m.jump t).inHandler = m.inHandler := rfl
@[simp] theorem CoreState.jump_currentBreakpoint (m : CoreState) (t : Word) : (m.jump t).currentBreakpoint = m.currentBreakpoint := rfl
@[simp] theorem CoreState.jump_cycleCount (m : CoreState) (t : Word) : (m.jump t).cycleCount = m.cycleCount := rfl
@[simp] theorem CoreState.jump_reg (m : CoreState) (t : Word) (r : Reg) : (m.jump t).reg r = m.reg r := by cases r <;> rfl

/-! ## CoreState.setHalted -/

@[simp] theorem CoreState.setHalted_a (m : CoreState) (b : Bool) : (m.setHalted b).a = m.a := rfl
@[simp] theorem CoreState.setHalted_b (m : CoreState) (b : Bool) : (m.setHalted b).b = m.b := rfl
@[simp] theorem CoreState.setHalted_c (m : CoreState) (b : Bool) : (m.setHalted b).c = m.c := rfl
@[simp] theorem CoreState.setHalted_d (m : CoreState) (b : Bool) : (m.setHalted b).d = m.d := rfl
@[simp] theorem CoreState.setHalted_ir (m : CoreState) (b : Bool) : (m.setHalted b).ir = m.ir := rfl
@[simp] theorem CoreState.setHalted_flags (m : CoreState) (b : Bool) : (m.setHalted b).flags = m.flags := rfl
@[simp] theorem CoreState.setHalted_pc (m : CoreState) (b : Bool) : (m.setHalted b).pc = m.pc := rfl
@[simp] theorem CoreState.setHalted_sp (m : CoreState) (b : Bool) : (m.setHalted b).sp = m.sp := rfl
@[simp] theorem CoreState.setHalted_ie (m : CoreState) (b : Bool) : (m.setHalted b).ie = m.ie := rfl
@[simp] theorem CoreState.setHalted_inHandler (m : CoreState) (b : Bool) : (m.setHalted b).inHandler = m.inHandler := rfl
@[simp] theorem CoreState.setHalted_currentBreakpoint (m : CoreState) (b : Bool) : (m.setHalted b).currentBreakpoint = m.currentBreakpoint := rfl
@[simp] theorem CoreState.setHalted_cycleCount (m : CoreState) (b : Bool) : (m.setHalted b).cycleCount = m.cycleCount := rfl
@[simp] theorem CoreState.setHalted_reg (m : CoreState) (b : Bool) (r : Reg) : (m.setHalted b).reg r = m.reg r := by cases r <;> rfl

@[simp] theorem CoreState.setFlags_flags (m : CoreState) (z c : Bool) : (m.setFlags z c).flags = flagsWith m.flags z c := rfl
@[simp] theorem CoreState.advance_pc (m : CoreState) (n : Nat) : (m.advance n).pc = m.pc + BitVec.ofNat 16 n := rfl
@[simp] theorem CoreState.jump_pc (m : CoreState) (t : Word) : (m.jump t).pc = t := rfl
@[simp] theorem CoreState.setHalted_halted (m : CoreState) (b : Bool) : (m.setHalted b).halted = b := rfl

end Sys2Proof.Machine
end

