-- ==== Sys2Proof/Laws/Cores.lean ====
section
/-! SUPPORT. Reading a core or a CPU by index after one was changed. -/

namespace Sys2Proof.Machine

open Sys2Proof

variable (s : State) (c c' : Nat) (id id' : CoreId)

/-! ## CPUs -/

theorem State.cpu_of_lt (h : c < s.numCpus) : s.cpu c = s.cpus[c] := by
  simp only [State.cpu, List.getElem?_eq_getElem h, Option.getD_some]

theorem State.cpu_of_le (h : s.numCpus ≤ c) : s.cpu c = CpuState.absent := by
  simp only [State.cpu, List.getElem?_eq_none h, Option.getD_none]

/-- A CPU that is not the absent one exists. -/
theorem State.lt_of_cpu_ne (h : s.cpu c ≠ CpuState.absent) : c < s.numCpus :=
  Nat.lt_of_not_le fun hc => h (s.cpu_of_le c hc)

theorem State.lt_of_hasCore (h : s.hasCore id) : id.cpu < s.numCpus := by
  apply State.lt_of_cpu_ne
  intro he
  rw [State.hasCore, he] at h
  exact Nat.not_lt_zero _ h

/-- A CPU by index is one of the CPUs, if it exists. -/
theorem State.cpu_mem (h : c < s.numCpus) : s.cpu c ∈ s.cpus := by
  rw [s.cpu_of_lt c h]; exact List.getElem_mem h

@[simp] theorem State.numCpus_modifyCpu (f : CpuState → CpuState) : (s.modifyCpu c f).numCpus = s.numCpus :=
  List.length_modify ..

theorem State.cpu_modifyCpu (f : CpuState → CpuState) :
    (s.modifyCpu c f).cpu c' = if c' = c ∧ c < s.numCpus then f (s.cpu c) else s.cpu c' := by
  simp only [State.cpu, State.modifyCpu, List.getElem?_modify, State.numCpus]
  by_cases h : c' = c
  · subst h
    by_cases h2 : c' < s.cpus.length
    · simp [h2]
    · simp [h2]
  · simp [h, Ne.symm h]

theorem State.cpu_modifyCpu_self (f : CpuState → CpuState) (h : c < s.numCpus) :
    (s.modifyCpu c f).cpu c = f (s.cpu c) := by rw [State.cpu_modifyCpu, if_pos ⟨rfl, h⟩]

theorem State.cpu_modifyCpu_ne (f : CpuState → CpuState) (h : c' ≠ c) : (s.modifyCpu c f).cpu c' = s.cpu c' := by
  rw [State.cpu_modifyCpu, if_neg fun he => h he.1]

/-- A projection of a CPU that an update keeps is kept for every CPU. -/
theorem State.cpu_modifyCpu_proj {α : Type} (f : CpuState → CpuState) (g : CpuState → α) (h : ∀ p, g (f p) = g p) :
    g ((s.modifyCpu c f).cpu c') = g (s.cpu c') := by
  rw [State.cpu_modifyCpu]
  split
  · next he => rw [h, he.1]
  · rfl

/-- A projection of a CPU that an update of every CPU keeps, and that the absent CPU shares, is kept. -/
theorem State.cpu_map (f : CpuState → CpuState) :
    State.cpu { s with cpus := s.cpus.map f } c = if c < s.numCpus then f (s.cpu c) else s.cpu c := by
  simp only [State.cpu, List.getElem?_map, State.numCpus]
  by_cases h : c < s.cpus.length <;> simp [h]

/-! ## Cores -/

@[simp] theorem CpuState.modifyCore_halted (p : CpuState) (k : Nat) (f : CoreState → CoreState) :
    (p.modifyCore k f).halted = p.halted := rfl

@[simp] theorem CpuState.modifyCore_paused (p : CpuState) (k : Nat) (f : CoreState → CoreState) :
    (p.modifyCore k f).paused = p.paused := rfl

@[simp] theorem CpuState.modifyCore_cache (p : CpuState) (k : Nat) (f : CoreState → CoreState) :
    (p.modifyCore k f).cache = p.cache := rfl

@[simp] theorem CpuState.modifyCore_cores (p : CpuState) (k : Nat) (f : CoreState → CoreState) :
    (p.modifyCore k f).cores = p.cores.modify k f := rfl

@[simp] theorem State.numCpus_modifyCore (f : CoreState → CoreState) : (s.modifyCore id f).numCpus = s.numCpus :=
  s.numCpus_modifyCpu ..

@[simp] theorem State.numCpus_updMe (f : CoreState → CoreState) : (s.updMe f).numCpus = s.numCpus :=
  s.numCpus_modifyCpu ..

@[simp] theorem State.cpu_modifyCore_halted (f : CoreState → CoreState) :
    ((s.modifyCore id f).cpu c).halted = (s.cpu c).halted :=
  s.cpu_modifyCpu_proj id.cpu c _ CpuState.halted fun _ => rfl

@[simp] theorem State.cpu_modifyCore_paused (f : CoreState → CoreState) :
    ((s.modifyCore id f).cpu c).paused = (s.cpu c).paused :=
  s.cpu_modifyCpu_proj id.cpu c _ CpuState.paused fun _ => rfl

@[simp] theorem State.cpu_modifyCore_cache (f : CoreState → CoreState) :
    ((s.modifyCore id f).cpu c).cache = (s.cpu c).cache :=
  s.cpu_modifyCpu_proj id.cpu c _ CpuState.cache fun _ => rfl

@[simp] theorem State.cpu_modifyCore_length (f : CoreState → CoreState) :
    ((s.modifyCore id f).cpu c).cores.length = (s.cpu c).cores.length :=
  s.cpu_modifyCpu_proj id.cpu c _ (fun p => p.cores.length) fun _ => List.length_modify ..

/-- The core read after a core was changed: the changed core if it is that one and exists. -/
theorem State.core_modifyCore (f : CoreState → CoreState) :
    (s.modifyCore id f).core id' = if id' = id ∧ s.hasCore id then f (s.core id) else s.core id' := by
  obtain ⟨c, k⟩ := id
  obtain ⟨c', k'⟩ := id'
  simp only [State.core, State.modifyCore, State.cpu_modifyCpu, State.hasCore, CoreId.mk.injEq]
  by_cases hc : c' = c
  · subst hc
    by_cases hl : c' < s.numCpus
    · simp only [hl, and_self, if_true, CpuState.modifyCore_cores, List.getElem?_modify, true_and]
      by_cases hk : k' = k
      · subst hk
        by_cases h : k' < (s.cpu c').cores.length <;> simp [h]
      · simp [hk, Ne.symm hk]
    · have : ¬ k < (s.cpu c').cores.length := by
        rw [s.cpu_of_le c' (Nat.le_of_not_lt hl)]; exact Nat.not_lt_zero _
      simp [hl, this]
  · simp [hc]

theorem State.core_modifyCore_self (f : CoreState → CoreState) (h : s.hasCore id) :
    (s.modifyCore id f).core id = f (s.core id) := by rw [State.core_modifyCore, if_pos ⟨rfl, h⟩]

theorem State.core_modifyCore_ne (f : CoreState → CoreState) (h : id' ≠ id) :
    (s.modifyCore id f).core id' = s.core id' := by rw [State.core_modifyCore, if_neg fun he => h he.1]

/-- Changing CPUs without their cores leaves every core. -/
theorem State.core_modifyCpu (f : CpuState → CpuState) (h : ∀ p, (f p).cores = p.cores) :
    (s.modifyCpu c f).core id = s.core id := by
  simp only [State.core]
  rw [s.cpu_modifyCpu_proj c id.cpu f CpuState.cores h]

/-- The executing core after it was changed. -/
theorem State.me_updMe (f : CoreState → CoreState) (h : s.hasCore s.self) : (s.updMe f).me = f s.me :=
  s.core_modifyCore_self s.self f h

/-- Changing the executing core leaves every other core. -/
theorem State.core_updMe_ne (f : CoreState → CoreState) (h : id ≠ s.self) : (s.updMe f).core id = s.core id :=
  s.core_modifyCore_ne s.self id f h

@[simp] theorem State.cpu_updMe_halted (f : CoreState → CoreState) : ((s.updMe f).cpu c).halted = (s.cpu c).halted :=
  s.cpu_modifyCore_halted ..

@[simp] theorem State.cpu_updMe_paused (f : CoreState → CoreState) : ((s.updMe f).cpu c).paused = (s.cpu c).paused :=
  s.cpu_modifyCore_paused ..

@[simp] theorem State.cpu_updMe_cache (f : CoreState → CoreState) : ((s.updMe f).cpu c).cache = (s.cpu c).cache :=
  s.cpu_modifyCore_cache ..

@[simp] theorem State.cpu_updMe_length (f : CoreState → CoreState) :
    ((s.updMe f).cpu c).cores.length = (s.cpu c).cores.length := s.cpu_modifyCore_length ..

@[simp] theorem State.cpu_focus : (s.focus id).cpu c = s.cpu c := rfl

@[simp] theorem State.core_focus : (s.focus id).core id' = s.core id' := rfl

@[simp] theorem State.me_focus : (s.focus id).me = s.core id := rfl

@[simp] theorem State.cpu_log (e : Event) : (s.log e).cpu c = s.cpu c := rfl

@[simp] theorem State.core_log (e : Event) : (s.log e).core id = s.core id := rfl

@[simp] theorem State.me_log (e : Event) : (s.log e).me = s.me := rfl

/-- Two changes of the executing core are one. -/
theorem State.updMe_updMe (f g : CoreState → CoreState) : (s.updMe f).updMe g = s.updMe fun m => g (f m) := by
  simp only [State.updMe, State.modifyCore, State.modifyCpu]
  congr 1
  apply List.ext_getElem?
  intro i
  simp only [List.getElem?_modify]
  cases s.cpus[i]? with
  | none => rfl
  | some p =>
    by_cases h : s.self.cpu = i
    · simp only [h, if_true, Option.map_eq_map, Option.map_some, CpuState.modifyCore]
      congr 2
      apply List.ext_getElem?
      intro j
      simp only [List.getElem?_modify]
      cases p.cores[j]? with
      | none => rfl
      | some m => by_cases hj : s.self.core = j <;> simp [hj]
    · simp [h]

end Sys2Proof.Machine
end

