-- ==== Sys2Proof/Laws/Memory.lean ====
section
/-! SUPPORT. Storage: what a byte reads as after a write or a clear, and that every operation keeps the canonical form. -/

namespace Sys2Proof.Machine

open Sys2Proof

theorem Memory.read_cons (x : Host.Cell) (m : Memory) (a : Nat) :
    Memory.read (x :: m) a = if x.1 = a then x.2 else Memory.read m a := rfl

/-- A byte below every listed address reads 0. -/
theorem Memory.read_of_lt (m : Memory) (a : Nat) (h : ∀ x ∈ m, a < x.1) : Memory.read m a = 0#8 := by
  induction m with
  | nil => rfl
  | cons x m ih =>
    have hx := h x (List.mem_cons_self ..)
    rw [Memory.read, if_neg (by omega)]
    exact ih fun y hy => h y (List.mem_cons_of_mem _ hy)

/-- A write leaves every other byte. -/
theorem Memory.read_write_ne (m : Memory) (a b : Nat) (v : Byte) (h : b ≠ a) :
    Memory.read (Memory.write m a v) b = Memory.read m b := by
  have skip : ∀ l : Memory, Memory.read ((a, v) :: l) b = Memory.read l b := fun l => by
    rw [Memory.read_cons, if_neg (Ne.symm h)]
  induction m with
  | nil =>
    rw [Memory.write]
    split
    · rfl
    · exact skip []
  | cons x m ih =>
    rw [Memory.write]
    split
    · split
      · rfl
      · exact skip _
    · split
      · next he =>
        have : Memory.read (x :: m) b = Memory.read m b := by
          rw [Memory.read_cons, if_neg (by omega)]
        rw [this]
        split
        · rfl
        · exact skip m
      · rw [Memory.read_cons, Memory.read_cons, ih]

/-- A byte written reads back, in canonical storage. -/
theorem Memory.read_write_self (m : Memory) (a : Nat) (v : Byte) (h : m.Pairwise fun x y => x.1 < y.1) :
    Memory.read (Memory.write m a v) a = v := by
  induction m with
  | nil =>
    rw [Memory.write]
    split
    · next hv => rw [hv]; rfl
    · rw [Memory.read, if_pos rfl]
  | cons x m ih =>
    obtain ⟨hx, hm⟩ := List.pairwise_cons.mp h
    rw [Memory.write]
    split
    · next hlt =>
      split
      · next hv =>
        rw [hv]
        apply Memory.read_of_lt
        intro y hy
        rcases List.mem_cons.mp hy with rfl | hy
        · exact hlt
        · exact Nat.lt_trans hlt (hx y hy)
      · rw [Memory.read, if_pos rfl]
    · split
      · next he =>
        split
        · next hv =>
          rw [hv]
          exact Memory.read_of_lt m a fun y hy => he ▸ hx y hy
        · rw [Memory.read, if_pos rfl]
      · next hne => rw [Memory.read, if_neg (Ne.symm hne), ih hm]

/-- Reading any byte after a write. -/
theorem Memory.read_write (m : Memory) (a b : Nat) (v : Byte) (h : m.Pairwise fun x y => x.1 < y.1) :
    Memory.read (Memory.write m a v) b = if b = a then v else Memory.read m b := by
  split
  · next he => rw [he, Memory.read_write_self m a v h]
  · next he => exact Memory.read_write_ne m a b v he

/-- What a write lists is the written byte, which is not 0, or was listed before. -/
theorem Memory.mem_write (m : Memory) (a : Nat) (v : Byte) (x : Host.Cell) (h : x ∈ Memory.write m a v) :
    (x = (a, v) ∧ v ≠ 0#8) ∨ x ∈ m := by
  induction m with
  | nil =>
    rw [Memory.write] at h
    split at h
    · exact absurd h (List.not_mem_nil)
    · next hv => exact .inl ⟨List.mem_singleton.mp h, hv⟩
  | cons y m ih =>
    rw [Memory.write] at h
    split at h
    · split at h
      · exact .inr h
      · next hv =>
        rcases List.mem_cons.mp h with h | h
        · exact .inl ⟨h, hv⟩
        · exact .inr h
    · split at h
      · split at h
        · exact .inr (List.mem_cons_of_mem _ h)
        · next hv =>
          rcases List.mem_cons.mp h with h | h
          · exact .inl ⟨h, hv⟩
          · exact .inr (List.mem_cons_of_mem _ h)
      · rcases List.mem_cons.mp h with h | h
        · exact .inr (h ▸ List.mem_cons_self ..)
        · exact (ih h).imp_right (List.mem_cons_of_mem _)

/-- A write keeps the addresses strictly rising. -/
theorem Memory.pairwise_write (m : Memory) (a : Nat) (v : Byte) (h : m.Pairwise fun x y => x.1 < y.1) :
    (Memory.write m a v).Pairwise fun x y => x.1 < y.1 := by
  induction m with
  | nil =>
    rw [Memory.write]
    split
    · exact List.Pairwise.nil
    · exact List.pairwise_singleton ..
  | cons x m ih =>
    obtain ⟨hx, hm⟩ := List.pairwise_cons.mp h
    rw [Memory.write]
    split
    · next hlt =>
      split
      · exact h
      · refine List.pairwise_cons.mpr ⟨fun y hy => ?_, h⟩
        rcases List.mem_cons.mp hy with rfl | hy
        · exact hlt
        · exact Nat.lt_trans hlt (hx y hy)
    · next hge =>
      split
      · next he =>
        split
        · exact hm
        · exact List.pairwise_cons.mpr ⟨fun y hy => he ▸ hx y hy, hm⟩
      · next hne =>
        refine List.pairwise_cons.mpr ⟨fun y hy => ?_, ih hm⟩
        rcases Memory.mem_write m a v y hy with ⟨rfl, _⟩ | hy
        · show x.1 < a; omega
        · exact hx y hy

/-- A write outside the I/O window keeps the canonical form. -/
theorem Memory.wf_write (m : Memory) (a : Nat) (v : Byte) (h : m.wf) (ha : a < ioBase.toNat) :
    (Memory.write m a v).wf := by
  refine ⟨Memory.pairwise_write m a v h.1, fun x hx => ?_⟩
  rcases Memory.mem_write m a v x hx with ⟨rfl, hv⟩ | hx
  · exact ⟨ha, hv⟩
  · exact h.2 x hx

/-- Reading any byte after a clear. -/
theorem Memory.read_clear (m : Memory) (lo hi a : Nat) :
    Memory.read (Memory.clear lo hi m) a = if lo ≤ a ∧ a ≤ hi then 0#8 else Memory.read m a := by
  induction m with
  | nil => simp [Memory.clear, Memory.read]
  | cons x m ih =>
    by_cases hx : lo ≤ x.1 ∧ x.1 ≤ hi
    · have : Memory.clear lo hi (x :: m) = Memory.clear lo hi m := by simp [Memory.clear, hx]
      rw [this, ih, Memory.read]
      by_cases he : x.1 = a
      · rw [if_pos (he ▸ hx), if_pos (he ▸ hx)]
      · rw [if_neg he]
    · have : Memory.clear lo hi (x :: m) = x :: Memory.clear lo hi m := by
        simp only [Memory.clear]
        rw [List.filter_cons_of_pos]
        by_cases h1 : lo ≤ x.1
        · have : ¬ x.1 ≤ hi := fun h2 => hx ⟨h1, h2⟩
          simp [this]
        · simp [h1]
      rw [this, Memory.read, ih, Memory.read]
      by_cases he : x.1 = a
      · rw [if_pos he, if_pos he, if_neg (he ▸ hx)]
      · rw [if_neg he, if_neg he]

/-- A clear keeps the canonical form. -/
theorem Memory.wf_clear (m : Memory) (lo hi : Nat) (h : m.wf) : (Memory.clear lo hi m).wf :=
  ⟨h.1.filter _, fun x hx => h.2 x (List.mem_of_mem_filter hx)⟩

/-- Storage at launch with nothing loaded has the canonical form. -/
theorem reset_mem_wf : State.reset.mem.wf := by decide

end Sys2Proof.Machine
end

