-- ==== Sys2Proof/Laws/Bus.lean ====
section
/-! SUPPORT. What a bus access can do: the regions, the caches, and one lemma per access for what it leaves unchanged. -/

namespace Sys2Proof.Machine

open Sys2Proof

/-! ## Regions -/

theorem regionOf_rom (cfg : Config) (a : Word) : regionOf cfg a = .rom ↔ a ≤ cfg.romEnd := by
  unfold regionOf; split
  · simp_all
  · split <;> simp_all

theorem regionOf_ram (cfg : Config) (a : Word) : regionOf cfg a = .ram ↔ cfg.romEnd < a ∧ a < ioBase := by
  unfold regionOf; split
  · next h => simp only [reduceCtorEq, false_iff]; bv_omega
  · split
    · next h => simp only [reduceCtorEq, false_iff]; bv_omega
    · simp only [true_iff]; bv_omega

theorem regionOf_io (cfg : Config) (a : Word) (h : cfg.romEnd < a) (hio : ioBase ≤ a) :
    regionOf cfg a = .io ((a.toNat - ioBase.toNat) / 16) ((a.toNat - ioBase.toNat) % 16) := by
  rw [regionOf, if_neg (by bv_omega), if_pos hio]

/-- An address is storage exactly when it is ROM or RAM. -/
theorem isStorage_iff (cfg : Config) (a : Word) : isStorage cfg a ↔ regionOf cfg a = .rom ∨ regionOf cfg a = .ram := by
  rw [regionOf_rom, regionOf_ram, isStorage]
  constructor
  · rintro (h | h)
    · exact .inl h
    · by_cases hr : a ≤ cfg.romEnd
      · exact .inl hr
      · exact .inr ⟨by bv_omega, h⟩
  · rintro (h | h)
    · exact .inl h
    · exact .inr h.2

/-! ## Caches -/

theorem Cache.lookup_eq_none (e : Cache) (a : Word) : e.lookup a = none ↔ ∀ x ∈ e, x.1 ≠ a := by
  induction e with
  | nil => simp [Cache.lookup]
  | cons x e ih =>
    obtain ⟨b, v⟩ := x
    rw [Cache.lookup]
    split <;> simp_all

theorem Cache.mem_of_lookup (e : Cache) (a : Word) (v : Byte) (h : e.lookup a = some v) : (a, v) ∈ e := by
  induction e with
  | nil => simp [Cache.lookup] at h
  | cons x e ih =>
    obtain ⟨b, w⟩ := x
    rw [Cache.lookup] at h
    split at h
    · simp_all
    · exact List.mem_cons_of_mem _ (ih h)

theorem Cache.lookup_invalidate_self (e : Cache) (a : Word) : (e.invalidate a).lookup a = none := by
  rw [Cache.lookup_eq_none]
  intro x hx
  simpa using (List.mem_filter.mp hx).2

theorem Cache.lookup_invalidate_ne (e : Cache) (a b : Word) (h : b ≠ a) : (e.invalidate a).lookup b = e.lookup b := by
  induction e with
  | nil => rfl
  | cons x e ih =>
    obtain ⟨d, w⟩ := x
    by_cases hd : d = a
    · have : Cache.invalidate ((d, w) :: e) a = Cache.invalidate e a := by simp [Cache.invalidate, hd]
      rw [this, ih, Cache.lookup, if_neg (hd ▸ Ne.symm h)]
    · have : Cache.invalidate ((d, w) :: e) a = (d, w) :: Cache.invalidate e a := by simp [Cache.invalidate, hd]
      rw [this, Cache.lookup, Cache.lookup, ih]

theorem Cache.mem_insert (e : Cache) (a : Word) (v : Byte) (x : Word × Byte) (h : x ∈ e.insert a v) :
    x ∈ e ∨ x = (a, v) := by
  have := List.mem_of_mem_drop h
  simpa using this

/-- A cache keeps the form of R47 when an address it does not hold enters it. -/
theorem Cache.wf_insert (e : Cache) (cfg : Config) (a : Word) (v : Byte) (h : e.wf cfg) (hm : e.lookup a = none)
    (hr : regionOf cfg a = .ram) : (e.insert a v).wf cfg := by
  refine ⟨?_, ?_, ?_⟩
  · simp only [Cache.insert, List.length_drop, List.length_append, List.length_cons, List.length_nil]
    omega
  · simp only [Cache.insert, List.map_drop]
    apply List.Nodup.sublist (List.drop_sublist ..)
    rw [List.map_append, List.nodup_append]
    refine ⟨h.2.1, by simp, ?_⟩
    intro x hx y hy
    obtain ⟨z, hz, rfl⟩ := List.mem_map.mp hx
    simp only [List.map_cons, List.map_nil, List.mem_singleton] at hy
    exact hy ▸ (Cache.lookup_eq_none e a).mp hm z hz
  · intro x hx
    rcases Cache.mem_insert e a v x hx with hx | rfl
    · exact h.2.2 x hx
    · exact hr

theorem Cache.wf_invalidate (e : Cache) (cfg : Config) (a : Word) (h : e.wf cfg) : (e.invalidate a).wf cfg :=
  ⟨Nat.le_trans (List.length_filter_le ..) h.1, h.2.1.sublist (List.filter_sublist.map _),
    fun x hx => h.2.2 x (List.mem_of_mem_filter hx)⟩

theorem Cache.wf_nil (cfg : Config) : Cache.wf [] cfg :=
  ⟨Nat.zero_le _, List.nodup_nil, fun _ h => absurd h List.not_mem_nil⟩

/-! ## What stays when only caches change -/

/-- A CPU without its cache. -/
def CpuState.bare (p : CpuState) : CpuState := { p with cache := [] }

/-- A CPU with another cache is the same but for its cache. -/
theorem CpuState.bare_cache (p : CpuState) (e : Cache) : CpuState.bare { p with cache := e } = p.bare := rfl

/-- The CPUs without their caches. -/
def State.bare (s : State) : List CpuState := s.cpus.map CpuState.bare

theorem State.bare_modifyCpu (s : State) (c : Nat) (f : CpuState → CpuState) (h : ∀ p, (f p).bare = p.bare) :
    (s.modifyCpu c f).bare = s.bare := by
  apply List.ext_getElem?
  intro i
  simp only [State.bare, State.modifyCpu, List.getElem?_map, List.getElem?_modify]
  cases s.cpus[i]? with
  | none => rfl
  | some p => by_cases hi : c = i <;> simp [hi, h]

theorem State.bare_map (s : State) (f : CpuState → CpuState) (h : ∀ p, (f p).bare = p.bare) :
    State.bare { s with cpus := s.cpus.map f } = s.bare := by
  simp only [State.bare, List.map_map]
  exact List.map_congr_left fun p _ => h p

theorem State.cpu_bare {s t : State} (h : t.bare = s.bare) (c : Nat) : (t.cpu c).bare = (s.cpu c).bare := by
  have := congrArg (fun l : List CpuState => l[c]?) h
  simp only [State.bare, List.getElem?_map] at this
  simp only [State.cpu]
  cases ht : t.cpus[c]? <;> cases hs : s.cpus[c]? <;> simp_all

theorem State.numCpus_bare {s t : State} (h : t.bare = s.bare) : t.numCpus = s.numCpus := by
  have := congrArg List.length h
  simpa [State.bare, State.numCpus] using this

theorem State.cpu_halted_bare {s t : State} (h : t.bare = s.bare) (c : Nat) : (t.cpu c).halted = (s.cpu c).halted :=
  (congrArg CpuState.halted (State.cpu_bare h c) : (t.cpu c).bare.halted = (s.cpu c).bare.halted)

theorem State.cpu_paused_bare {s t : State} (h : t.bare = s.bare) (c : Nat) : (t.cpu c).paused = (s.cpu c).paused :=
  (congrArg CpuState.paused (State.cpu_bare h c) : (t.cpu c).bare.paused = (s.cpu c).bare.paused)

theorem State.cpu_cores_bare {s t : State} (h : t.bare = s.bare) (c : Nat) : (t.cpu c).cores = (s.cpu c).cores :=
  (congrArg CpuState.cores (State.cpu_bare h c) : (t.cpu c).bare.cores = (s.cpu c).bare.cores)

theorem State.core_bare {s t : State} (h : t.bare = s.bare) (id : CoreId) : t.core id = s.core id := by
  simp only [State.core, State.cpu_cores_bare h]

/-! ## Reads -/

/-- A read changes a cache or the device oracle's counter, nothing else. -/
theorem State.busRead_shape (s : State) (c : Nat) (a : Word) :
    ∃ cpus draws, (s.busRead c a).2 = { s with cpus := cpus, oracleDraws := draws } ∧
      cpus.map CpuState.bare = s.bare := by
  unfold State.busRead
  split
  · exact ⟨s.cpus, s.oracleDraws, rfl, rfl⟩
  · unfold State.slotRead
    split
    · exact ⟨s.cpus, s.oracleDraws, rfl, rfl⟩
    · split
      · exact ⟨s.cpus, s.oracleDraws + 1, rfl, rfl⟩
      · exact ⟨s.cpus, s.oracleDraws, rfl, rfl⟩
  · unfold State.ramRead
    split
    · exact ⟨s.cpus, s.oracleDraws, rfl, rfl⟩
    · generalize s.mem.read a.toNat = v
      have hb := s.bare_modifyCpu c (fun p => { p with cache := p.cache.insert a v }) fun p => p.bare_cache _
      exact ⟨_, s.oracleDraws, rfl, hb⟩

theorem State.busRead_bare (s : State) (c : Nat) (a : Word) : (s.busRead c a).2.bare = s.bare := by
  obtain ⟨_, _, h, hb⟩ := s.busRead_shape c a
  rw [h]; exact hb

@[simp] theorem State.busRead_cfg (s : State) (c : Nat) (a : Word) : (s.busRead c a).2.cfg = s.cfg := by
  obtain ⟨_, _, h, _⟩ := s.busRead_shape c a
  rw [h]

@[simp] theorem State.memRead_cfg (s : State) (a : Word) : (s.memRead a).2.cfg = s.cfg := s.busRead_cfg ..

@[simp] theorem State.busRead_mem (s : State) (c : Nat) (a : Word) : (s.busRead c a).2.mem = s.mem := by
  obtain ⟨_, _, h, _⟩ := s.busRead_shape c a
  rw [h]

@[simp] theorem State.memRead_mem (s : State) (a : Word) : (s.memRead a).2.mem = s.mem := s.busRead_mem ..

@[simp] theorem State.busRead_breakpoints (s : State) (c : Nat) (a : Word) : (s.busRead c a).2.breakpoints = s.breakpoints := by
  obtain ⟨_, _, h, _⟩ := s.busRead_shape c a
  rw [h]

@[simp] theorem State.memRead_breakpoints (s : State) (a : Word) : (s.memRead a).2.breakpoints = s.breakpoints := s.busRead_breakpoints ..

@[simp] theorem State.busRead_ic (s : State) (c : Nat) (a : Word) : (s.busRead c a).2.ic = s.ic := by
  obtain ⟨_, _, h, _⟩ := s.busRead_shape c a
  rw [h]

@[simp] theorem State.memRead_ic (s : State) (a : Word) : (s.memRead a).2.ic = s.ic := s.busRead_ic ..

@[simp] theorem State.busRead_events (s : State) (c : Nat) (a : Word) : (s.busRead c a).2.events = s.events := by
  obtain ⟨_, _, h, _⟩ := s.busRead_shape c a
  rw [h]

@[simp] theorem State.memRead_events (s : State) (a : Word) : (s.memRead a).2.events = s.events := s.busRead_events ..

@[simp] theorem State.busRead_self (s : State) (c : Nat) (a : Word) : (s.busRead c a).2.self = s.self := by
  obtain ⟨_, _, h, _⟩ := s.busRead_shape c a
  rw [h]

@[simp] theorem State.memRead_self (s : State) (a : Word) : (s.memRead a).2.self = s.self := s.busRead_self ..

@[simp] theorem State.busRead_host (s : State) (c : Nat) (a : Word) : (s.busRead c a).2.host = s.host := by
  obtain ⟨_, _, h, _⟩ := s.busRead_shape c a
  rw [h]

@[simp] theorem State.memRead_host (s : State) (a : Word) : (s.memRead a).2.host = s.host := s.busRead_host ..

@[simp] theorem State.busRead_turn (s : State) (c : Nat) (a : Word) : (s.busRead c a).2.turn = s.turn := by
  obtain ⟨_, _, h, _⟩ := s.busRead_shape c a
  rw [h]

@[simp] theorem State.memRead_turn (s : State) (a : Word) : (s.memRead a).2.turn = s.turn := s.busRead_turn ..

@[simp] theorem State.core_memRead (s : State) (a : Word) (id : CoreId) : (s.memRead a).2.core id = s.core id :=
  State.core_bare (s.busRead_bare ..) id

@[simp] theorem State.me_memRead (s : State) (a : Word) : (s.memRead a).2.me = s.me := by
  simp only [State.me, State.memRead_self, State.core_memRead]

@[simp] theorem State.hasCore_memRead (s : State) (a : Word) (id : CoreId) :
    (s.memRead a).2.hasCore id ↔ s.hasCore id := by
  simp only [State.hasCore, State.memRead, State.cpu_cores_bare (s.busRead_bare ..)]

/-! ## Writes -/

/-- A port write of the interrupt controller changes the controller and the events, nothing else. -/
theorem State.writeIcPort_shape (s : State) (port : Nat) (v : Byte) :
    ∃ ic events, s.writeIcPort port v = { s with ic := ic, events := events } := by
  have hr : ∀ p, ∃ ic events, s.writeRoute p v = { s with ic := ic, events := events } := by
    intro p
    unfold State.writeRoute
    split
    · unfold State.routeByNibble
      dsimp only
      split
      · split
        · exact ⟨s.ic, _, rfl⟩
        · split <;> exact ⟨_, s.events, rfl⟩
      · exact ⟨s.ic, _, rfl⟩
    · unfold State.routeBySelect
      split
      · exact ⟨_, s.events, rfl⟩
      · split
        · exact ⟨s.ic, _, rfl⟩
        · exact ⟨_, s.events, rfl⟩
  unfold State.writeIcPort
  split <;> first | exact hr _ | exact ⟨_, s.events, rfl⟩

/-- A write changes storage, caches, the interrupt controller or the events, nothing else. -/
theorem State.busWrite_shape (s : State) (c : Nat) (a : Word) (v : Byte) :
    ∃ cpus mem ic events,
      s.busWrite c a v = { s with cpus := cpus, mem := mem, ic := ic, events := events } ∧
        cpus.map CpuState.bare = s.bare := by
  unfold State.busWrite
  split
  · exact ⟨s.cpus, s.mem, s.ic, _, rfl, rfl⟩
  · unfold State.slotWrite
    split
    · obtain ⟨ic, events, h⟩ := s.writeIcPort_shape _ v
      exact ⟨s.cpus, s.mem, ic, events, h, rfl⟩
    · split
      · exact ⟨s.cpus, s.mem, s.ic, _, rfl, rfl⟩
      · exact ⟨s.cpus, s.mem, s.ic, s.events, rfl, rfl⟩
  · unfold State.invalidate
    split
    · exact ⟨_, _, s.ic, s.events, rfl, s.bare_modifyCpu c _ fun p => p.bare_cache _⟩
    · exact ⟨_, _, s.ic, s.events, rfl, s.bare_map _ fun p => p.bare_cache _⟩

theorem State.busWrite_bare (s : State) (c : Nat) (a : Word) (v : Byte) : (s.busWrite c a v).bare = s.bare := by
  obtain ⟨_, _, _, _, h, hb⟩ := s.busWrite_shape c a v
  rw [h]; exact hb

@[simp] theorem State.busWrite_cfg (s : State) (c : Nat) (a : Word) (v : Byte) : (s.busWrite c a v).cfg = s.cfg := by
  obtain ⟨_, _, _, _, h, _⟩ := s.busWrite_shape c a v
  rw [h]

@[simp] theorem State.memWrite_cfg (s : State) (a : Word) (v : Byte) : (s.memWrite a v).cfg = s.cfg := s.busWrite_cfg ..

@[simp] theorem State.busWrite_breakpoints (s : State) (c : Nat) (a : Word) (v : Byte) : (s.busWrite c a v).breakpoints = s.breakpoints := by
  obtain ⟨_, _, _, _, h, _⟩ := s.busWrite_shape c a v
  rw [h]

@[simp] theorem State.memWrite_breakpoints (s : State) (a : Word) (v : Byte) : (s.memWrite a v).breakpoints = s.breakpoints := s.busWrite_breakpoints ..

@[simp] theorem State.busWrite_self (s : State) (c : Nat) (a : Word) (v : Byte) : (s.busWrite c a v).self = s.self := by
  obtain ⟨_, _, _, _, h, _⟩ := s.busWrite_shape c a v
  rw [h]

@[simp] theorem State.memWrite_self (s : State) (a : Word) (v : Byte) : (s.memWrite a v).self = s.self := s.busWrite_self ..

@[simp] theorem State.busWrite_host (s : State) (c : Nat) (a : Word) (v : Byte) : (s.busWrite c a v).host = s.host := by
  obtain ⟨_, _, _, _, h, _⟩ := s.busWrite_shape c a v
  rw [h]

@[simp] theorem State.memWrite_host (s : State) (a : Word) (v : Byte) : (s.memWrite a v).host = s.host := s.busWrite_host ..

@[simp] theorem State.busWrite_turn (s : State) (c : Nat) (a : Word) (v : Byte) : (s.busWrite c a v).turn = s.turn := by
  obtain ⟨_, _, _, _, h, _⟩ := s.busWrite_shape c a v
  rw [h]

@[simp] theorem State.memWrite_turn (s : State) (a : Word) (v : Byte) : (s.memWrite a v).turn = s.turn := s.busWrite_turn ..

@[simp] theorem State.busWrite_oracleDraws (s : State) (c : Nat) (a : Word) (v : Byte) : (s.busWrite c a v).oracleDraws = s.oracleDraws := by
  obtain ⟨_, _, _, _, h, _⟩ := s.busWrite_shape c a v
  rw [h]

@[simp] theorem State.memWrite_oracleDraws (s : State) (a : Word) (v : Byte) : (s.memWrite a v).oracleDraws = s.oracleDraws := s.busWrite_oracleDraws ..

@[simp] theorem State.core_memWrite (s : State) (a : Word) (v : Byte) (id : CoreId) :
    (s.memWrite a v).core id = s.core id := State.core_bare (s.busWrite_bare ..) id

@[simp] theorem State.me_memWrite (s : State) (a : Word) (v : Byte) : (s.memWrite a v).me = s.me := by
  simp only [State.me, State.memWrite_self, State.core_memWrite]

@[simp] theorem State.hasCore_memWrite (s : State) (a : Word) (v : Byte) (id : CoreId) :
    (s.memWrite a v).hasCore id ↔ s.hasCore id := by
  simp only [State.hasCore, State.memWrite, State.cpu_cores_bare (s.busWrite_bare ..)]

/-- What a write to ROM does (R106, R463). -/
theorem State.busWrite_rom (s : State) (c : Nat) (a : Word) (v : Byte) (h : regionOf s.cfg a = .rom) :
    s.busWrite c a v = s.log (.romWrite a v) := by rw [State.busWrite, h]

/-- What a write to I/O does (R106, R107). -/
theorem State.busWrite_io (s : State) (c : Nat) (a : Word) (v : Byte) (slot port : Nat)
    (h : regionOf s.cfg a = .io slot port) : s.busWrite c a v = s.slotWrite slot port v := by rw [State.busWrite, h]

/-- What a write to RAM does (R106, R110). -/
theorem State.busWrite_ram (s : State) (c : Nat) (a : Word) (v : Byte) (h : regionOf s.cfg a = .ram) :
    s.busWrite c a v = State.invalidate { s with mem := s.mem.write a.toNat v } c a := by rw [State.busWrite, h]

/-- Storage after a write: the byte at a RAM address, nothing elsewhere. -/
theorem State.busWrite_mem (s : State) (c : Nat) (a : Word) (v : Byte) :
    (s.busWrite c a v).mem = if regionOf s.cfg a = .ram then s.mem.write a.toNat v else s.mem := by
  unfold State.busWrite
  split
  · rw [if_neg (by simp_all)]; rfl
  · rw [if_neg (by simp_all)]
    unfold State.slotWrite
    split
    · obtain ⟨_, _, h⟩ := s.writeIcPort_shape _ v
      rw [h]
    · split <;> rfl
  · next h =>
    rw [if_pos h]
    unfold State.invalidate
    split <;> rfl

end Sys2Proof.Machine
end

