-- ==== Sys2Proof/Laws/Effects.lean ====
section
/-! SUPPORT. Said once for each shared operation: everything it does. A proof cites these and unfolds no operation. -/

namespace Sys2Proof.Machine

open Sys2Proof

/-! ## The executing core alone -/

/-- What a CPU reads at an address depends on the parameters, storage, its cache, the controller and the oracle only. -/
theorem State.busRead_congr {s t : State} (c : Nat) (a : Word) (hcfg : t.cfg = s.cfg) (hmem : t.mem = s.mem)
    (hcache : (t.cpu c).cache = (s.cpu c).cache) (hic : t.ic = s.ic) (hdraw : t.oracleDraws = s.oracleDraws) :
    (t.busRead c a).1 = (s.busRead c a).1 := by
  unfold State.busRead
  rw [hcfg]
  split
  · rw [hmem]
  · unfold State.slotRead
    rw [hcfg, hic, hdraw]
    split <;> first | rfl | (split <;> rfl)
  · unfold State.ramRead
    rw [hmem, hcache]
    split <;> rfl

/-- Where only cores and the CPUs' flags differ, the rest of the machine is kept. -/
theorem machineKept_of {s t : State} (hcfg : t.cfg = s.cfg) (hmem : t.mem = s.mem) (hshape : ShapeKept s t)
    (hset : SettingKept s t) (hcache : CachesKept s t) (hdev : DevicesKept s t) : MachineKept s t :=
  ⟨fun c a => State.busRead_congr c a hcfg hmem (hcache c) hdev.1 hdev.2.2, hmem, hshape, hset, hcache, hdev⟩

/-- Changing any core keeps the rest of the machine. -/
theorem machineKept_modifyCore (s : State) (id : CoreId) (f : CoreState → CoreState) :
    MachineKept s (s.modifyCore id f) :=
  machineKept_of rfl rfl ⟨by simp, fun c => s.cpu_modifyCore_length c id f⟩ ⟨rfl, rfl, rfl, rfl, rfl⟩
    (fun c => s.cpu_modifyCore_cache c id f) ⟨rfl, rfl, rfl⟩

/-- Changing any core keeps the CPUs' own flags. -/
theorem cpuFlagsKept_modifyCore (s : State) (id : CoreId) (f : CoreState → CoreState) :
    CpuFlagsKept s (s.modifyCore id f) :=
  fun c => ⟨s.cpu_modifyCore_halted c id f, s.cpu_modifyCore_paused c id f⟩

/-- Changing the executing core changes nothing else. -/
theorem becomesOnly_updMe (s : State) (f : CoreState → CoreState) (h : s.hasCore s.self) :
    BecomesOnly s (s.updMe f) (f s.me) :=
  ⟨s.me_updMe f h, fun id hid => s.core_updMe_ne id f fun he => hid (List.mem_singleton.mpr he),
    cpuFlagsKept_modifyCore s s.self f, machineKept_modifyCore s s.self f⟩

theorem MachineKept.refl (s : State) : MachineKept s s :=
  machineKept_of rfl rfl ⟨rfl, fun _ => rfl⟩ ⟨rfl, rfl, rfl, rfl, rfl⟩ (fun _ => rfl) ⟨rfl, rfl, rfl⟩

theorem MachineKept.trans {s t u : State} (h : MachineKept s t) (k : MachineKept t u) : MachineKept s u := by
  obtain ⟨h1, h2, ⟨h3, h4⟩, ⟨h5, h6, h7, h8, h9⟩, h10, h11, h12, h13⟩ := h
  obtain ⟨k1, k2, ⟨k3, k4⟩, ⟨k5, k6, k7, k8, k9⟩, k10, k11, k12, k13⟩ := k
  exact ⟨fun c a => (k1 c a).trans (h1 c a), k2.trans h2, ⟨k3.trans h3, fun c => (k4 c).trans (h4 c)⟩,
    ⟨k5.trans h5, k6.trans h6, k7.trans h7, k8.trans h8, k9.trans h9⟩, fun c => (k10 c).trans (h10 c),
    k11.trans h11, k12.trans h12, k13.trans h13⟩

/-- Two executing cores one after the other: the change is the second. -/
theorem State.updMe_const (s : State) (f : CoreState → CoreState) (m : CoreState) :
    (s.updMe f).updMe (fun _ => m) = s.updMe fun _ => m := s.updMe_updMe f _

/-- A change of the executing core that exists sets it to one value. -/
theorem State.updMe_eq_const (s : State) (f : CoreState → CoreState) : s.updMe f = s.updMe fun _ => f s.me := by
  simp only [State.updMe, State.modifyCore, State.modifyCpu]
  congr 1
  apply List.ext_getElem?
  intro i
  simp only [List.getElem?_modify]
  by_cases hi : s.self.cpu = i
  · subst hi
    cases hp : s.cpus[s.self.cpu]? with
    | none => rfl
    | some p =>
      simp only [if_true, Option.map_eq_map, Option.map_some, CpuState.modifyCore]
      congr 2
      apply List.ext_getElem?
      intro j
      simp only [List.getElem?_modify]
      by_cases hj : s.self.core = j
      · subst hj
        cases hm : p.cores[s.self.core]? with
        | none => rfl
        | some m => simp [State.me, State.core, State.cpu, hp, hm]
      · simp [hj]
  · simp [hi]

/-! ## Registers and flags -/

/-- FLAGS after an ALU result is what `flagsAfter` says. -/
theorem flagsWith_eq (f r : Byte) (c : Bool) : flagsWith f (decide (r = 0#8)) c = flagsAfter f r c := by
  unfold flagsWith flagsAfter
  by_cases h : r = 0#8 <;> cases c <;> simp [h]

/-- An ALU form with a destination: the result, the flags, PC (R253). -/
theorem aluEffect_write (s : State) (f : CoreState → AluResult) (r : Reg) (n : Nat) (v : Byte) (c : Bool)
    (h : s.hasCore s.self) (hf : f s.me = aluResult v c) :
    AluEffect s (s.updMe fun m => (m.writeAlu r (f m)).advance n) (some r) v c n := by
  have := becomesOnly_updMe s (fun m => (m.writeAlu r (f m)).advance n) h
  rw [AluEffect]
  convert this using 1
  simp [CoreState.writeAlu, CoreState.setFlags, CoreState.advance, hf, aluResult, flagsWith_eq]

/-- An ALU form without a destination: the flags, PC (R253). -/
theorem aluEffect_flags (s : State) (f : CoreState → AluResult) (n : Nat) (v : Byte) (c : Bool)
    (h : s.hasCore s.self) (hf : f s.me = aluResult v c) :
    AluEffect s (s.updMe fun m => (m.flagAlu (f m)).advance n) none v c n := by
  have := becomesOnly_updMe s (fun m => (m.flagAlu (f m)).advance n) h
  rw [AluEffect]
  convert this using 1
  simp [CoreState.flagAlu, CoreState.setFlags, CoreState.advance, hf, aluResult, flagsWith_eq]

/-! ## Cores and the bus -/

/-- Changes of two CPUs, or of one CPU by functions that commute, commute. -/
theorem State.modifyCpu_comm (s : State) (c d : Nat) (f g : CpuState → CpuState) (h : ∀ p, f (g p) = g (f p)) :
    (s.modifyCpu c f).modifyCpu d g = (s.modifyCpu d g).modifyCpu c f := by
  simp only [State.modifyCpu]
  congr 1
  apply List.ext_getElem?
  intro i
  simp only [List.getElem?_modify]
  cases s.cpus[i]? with
  | none => rfl
  | some p => by_cases hc : c = i <;> by_cases hd : d = i <;> simp [hc, hd, h]

/-- A change of a core and a change of the cache commute. -/
theorem CpuState.modifyCore_mapCache (p : CpuState) (k : Nat) (f : CoreState → CoreState) (g : Cache → Cache) :
    CpuState.modifyCore { p with cache := g p.cache } k f = { p.modifyCore k f with cache := g (p.modifyCore k f).cache } :=
  rfl

/-- A read by a core sees and changes no core: it commutes with a change of the executing core. -/
theorem State.busRead_updMe (s : State) (f : CoreState → CoreState) (c : Nat) (a : Word) :
    (s.updMe f).busRead c a = ((s.busRead c a).1, (s.busRead c a).2.updMe f) := by
  unfold State.busRead
  rw [State.updMe_cfg]
  split
  · rfl
  · unfold State.slotRead
    rename_i slot port _
    by_cases h1 : slot = s.cfg.icSlot
    · simp [h1]
    · by_cases h2 : slot ∈ s.cfg.hostDevices
      · rw [if_neg (show ¬slot = (s.updMe f).cfg.icSlot from h1), if_neg h1,
          if_pos (show slot ∈ (s.updMe f).cfg.hostDevices from h2), if_pos h2]
        rfl
      · simp [h1, h2]
  · unfold State.ramRead
    rw [State.cpu_updMe_cache, State.updMe_mem]
    split
    · rfl
    · generalize s.mem.read a.toNat = w
      refine Prod.ext rfl ?_
      exact s.modifyCpu_comm s.self.cpu c _ _ fun p => p.modifyCore_mapCache s.self.core f fun e => e.insert a w

theorem State.memRead_updMe (s : State) (f : CoreState → CoreState) (a : Word) :
    (s.updMe f).memRead a = ((s.memRead a).1, (s.memRead a).2.updMe f) := s.busRead_updMe f s.self.cpu a

/-- A port write changes no core and sees none. -/
theorem State.writeIcPort_updMe (s : State) (f : CoreState → CoreState) (port : Nat) (v : Byte) :
    (s.updMe f).writeIcPort port v = (s.writeIcPort port v).updMe f := by
  have hr : ∀ p, (s.updMe f).writeRoute p v = (s.writeRoute p v).updMe f := by
    intro p
    unfold State.writeRoute
    rw [State.updMe_cfg]
    split
    · unfold State.routeByNibble
      by_cases h : (v.extractLsb' 4 4).toNat < 8
      · simp only [if_pos h, State.updMe_ic]
        cases s.ic.route[irqOf (v.extractLsb' 4 4).toNat] with
        | none => rfl
        | some r => by_cases hp : p = 6 <;> simp only [hp, if_true, if_false] <;> rfl
      · simp only [if_neg h]; rfl
    · unfold State.routeBySelect
      by_cases hp : p = 6
      · simp only [hp, if_true]; rfl
      · simp only [if_neg hp, State.updMe_ic]
        cases s.ic.route[irqOf s.ic.routeSelect.toNat] <;> rfl
  unfold State.writeIcPort
  split <;> first | exact hr _ | rfl

/-- A write by a core changes no core and sees none: it commutes with a change of the executing core. -/
theorem State.busWrite_updMe (s : State) (f : CoreState → CoreState) (c : Nat) (a : Word) (v : Byte) :
    (s.updMe f).busWrite c a v = (s.busWrite c a v).updMe f := by
  unfold State.busWrite
  rw [State.updMe_cfg]
  split
  · rfl
  · unfold State.slotWrite
    rename_i slot port _
    by_cases h1 : slot = s.cfg.icSlot
    · simp only [State.updMe_cfg, if_pos h1, s.writeIcPort_updMe f]
    · by_cases h2 : slot ∈ s.cfg.hostDevices
      · rw [if_neg (show ¬slot = (s.updMe f).cfg.icSlot from h1), if_neg h1,
          if_pos (show slot ∈ (s.updMe f).cfg.hostDevices from h2), if_pos h2]
        rfl
      · simp [h1, h2]
  · unfold State.invalidate
    dsimp only
    split
    · exact State.modifyCpu_comm { s with mem := s.mem.write a.toNat v } s.self.cpu c _ _
        fun p => p.modifyCore_mapCache s.self.core f fun e => e.invalidate a
    · simp only [State.updMe, State.modifyCore, State.modifyCpu]
      congr 1
      apply List.ext_getElem?
      intro i
      simp only [List.getElem?_map, List.getElem?_modify]
      cases s.cpus[i]? with
      | none => rfl
      | some p => by_cases hi : s.self.cpu = i <;> simp [hi, CpuState.modifyCore]

theorem State.memWrite_updMe (s : State) (f : CoreState → CoreState) (a : Word) (v : Byte) :
    (s.updMe f).memWrite a v = (s.memWrite a v).updMe f := s.busWrite_updMe f s.self.cpu a v

/-! ## The stack and the returns -/

/-- The executing core still exists after it changed. -/
@[simp] theorem State.hasCore_updMe (s : State) (f : CoreState → CoreState) (id : CoreId) :
    (s.updMe f).hasCore id ↔ s.hasCore id := by simp only [State.hasCore, State.cpu_updMe_length]

/-- Setting the executing core to what it is changes nothing. -/
theorem State.updMe_me (s : State) : s.updMe (fun _ => s.me) = s := by
  rw [← State.updMe_eq_const s fun m => m]
  simp only [State.updMe, State.modifyCore, State.modifyCpu, CpuState.modifyCore]
  have : (fun p : CpuState => { p with cores := p.cores.modify s.self.core fun m => m }) = id := by
    funext p; simp [show (fun m : CoreState => m) = id from rfl]
  rw [this]; simp

/-- A push by a core that was set to `m`: a write at its SP, and SP one less (R300). -/
theorem State.push8_updMe (s : State) (m : CoreState) (v : Byte) (h : s.hasCore s.self) :
    (s.updMe fun _ => m).push8 v = (s.memWrite m.sp v).updMe fun _ => { m with sp := m.sp - 1 } := by
  rw [State.push8, s.me_updMe _ h, State.memWrite_updMe, State.updMe_updMe]

/-- A push: a write at SP, and SP one less (R300). -/
theorem State.push8_spec (s : State) (v : Byte) (h : s.hasCore s.self) :
    s.push8 v = (s.memWrite s.me.sp v).updMe fun _ => { s.me with sp := s.me.sp - 1 } := by
  rw [← State.push8_updMe s s.me v h, s.updMe_me]

/-- A pop by a core that was set to `m`: a read at its SP + 1, and SP one more (R301). -/
theorem State.pop8_updMe (s : State) (m : CoreState) (h : s.hasCore s.self) :
    (s.updMe fun _ => m).pop8 =
      ((s.memRead (m.sp + 1)).1, (s.memRead (m.sp + 1)).2.updMe fun _ => { m with sp := m.sp + 1 }) := by
  rw [State.pop8, State.incSp, State.updMe_updMe, s.me_updMe _ h, State.memRead_updMe]

/-- A pop: a read at SP + 1, and SP one more (R301). -/
theorem State.pop8_spec (s : State) (h : s.hasCore s.self) :
    s.pop8 = ((s.memRead (s.me.sp + 1)).1,
      (s.memRead (s.me.sp + 1)).2.updMe fun _ => { s.me with sp := s.me.sp + 1 }) := by
  rw [← State.pop8_updMe s s.me h, s.updMe_me]

/-- The return from an interrupt: three reads, then the context (R348). -/
theorem interruptReturn_spec (s : State) (h : s.hasCore s.self) :
    interruptReturn s =
      (((s.memRead (s.me.sp + 1)).2.memRead (s.me.sp + 2)).2.memRead (s.me.sp + 3)).2.updMe fun _ =>
        { s.me with
          sp := s.me.sp + 3
          pc := w16 (s.memRead (s.me.sp + 1)).1 ((s.memRead (s.me.sp + 1)).2.memRead (s.me.sp + 2)).1
          flags := (((s.memRead (s.me.sp + 1)).2.memRead (s.me.sp + 2)).2.memRead (s.me.sp + 3)).1
          ie := true
          inHandler := false } := by
  have h1 : s.me.sp + 1 + 1 = s.me.sp + 2 := by bv_omega
  have h2 : s.me.sp + 2 + 1 = s.me.sp + 3 := by bv_omega
  unfold interruptReturn
  rw [s.pop8_spec h]
  generalize hu : (s.memRead (s.me.sp + 1)) = u
  have hc1 : u.2.hasCore u.2.self := by rw [← hu]; simpa using h
  simp only [State.pop8_updMe _ _ hc1, h1]
  generalize hv : (u.2.memRead (s.me.sp + 2)) = v
  have hc2 : v.2.hasCore v.2.self := by rw [← hv]; simpa using hc1
  simp only [State.pop8_updMe _ _ hc2, h2, State.updMe_updMe]

/-- An interrupt entry up to its check of the handler address: three writes of the context, the core's new state, the
acknowledgement (R481). -/
theorem State.enterInterrupt_spec (s : State) (i : Irq) :
    s.enterInterrupt i =
      (let t := (s.pushContext s.me).updMe fun _ => { s.me with ie := false, inHandler := true, sp := s.me.sp - 3 }
       { t with ic := t.ic.acknowledge i }) := by
  have hp (m : CoreState) (f : CoreState → CoreState) : (s.updMe f).pushContext m = (s.pushContext m).updMe f := by
    simp only [State.pushContext, State.memWrite_updMe]
  have hm (m : CoreState) : (s.pushContext m).me = s.me := by simp only [State.pushContext, State.me_memWrite]
  unfold State.enterInterrupt
  simp only [hp, State.updMe_updMe]
  rw [State.updMe_eq_const, hm]

/-- The executing core just before the check of the handler address (R481). -/
theorem State.me_enterInterrupt (s : State) (i : Irq) (h : s.hasCore s.self) :
    (s.enterInterrupt i).me = { s.me with ie := false, inHandler := true, sp := s.me.sp - 3 } := by
  rw [State.enterInterrupt_spec]
  exact State.me_updMe _ _ (by simpa [State.pushContext] using h)

/-! ## Breakpoints and the multi-core forms -/

/-- Recording a breakpoint sets the record of the executing core and pauses its CPU, and nothing else (R205, R383). -/
theorem State.recordBreakpoint_spec (s : State) (h : s.hasCore s.self) :
    s.recordBreakpoint.me = { s.me with currentBreakpoint := some s.me.pc } ∧
      CoresKeptBut s s.recordBreakpoint [s.self] ∧ MachineKept s s.recordBreakpoint ∧
      ∀ c, (s.recordBreakpoint.cpu c).halted = (s.cpu c).halted ∧
        (s.recordBreakpoint.cpu c).paused = if c = s.self.cpu then true else (s.cpu c).paused := by
  let u := s.updMe fun m => { m with currentBreakpoint := some m.pc }
  have hc : ∀ id, s.recordBreakpoint.core id = u.core id := fun id => u.core_modifyCpu s.self.cpu id _ fun _ => rfl
  have hl : s.self.cpu < s.numCpus := s.lt_of_hasCore s.self h
  have hcache : ∀ c, (s.recordBreakpoint.cpu c).cache = (s.cpu c).cache := fun c =>
    (u.cpu_modifyCpu_proj s.self.cpu c (fun p => { p with paused := true }) CpuState.cache fun _ => rfl).trans
      (s.cpu_updMe_cache c _)
  refine ⟨(hc s.self).trans (s.me_updMe _ h), fun id hid => (hc id).trans (s.core_updMe_ne id _ ?_),
    machineKept_of rfl rfl ⟨by simp [State.recordBreakpoint], fun c => ?_⟩ ⟨rfl, rfl, rfl, rfl, rfl⟩ hcache
      ⟨rfl, rfl, rfl⟩, fun c => ⟨?_, ?_⟩⟩
  · simpa using hid
  · exact (u.cpu_modifyCpu_proj s.self.cpu c (fun p => { p with paused := true }) (fun p => p.cores.length)
      fun _ => rfl).trans (s.cpu_updMe_length c _)
  · exact (u.cpu_modifyCpu_proj s.self.cpu c (fun p => { p with paused := true }) CpuState.halted fun _ => rfl).trans
      (s.cpu_updMe_halted c _)
  · rw [State.recordBreakpoint, State.cpu_modifyCpu]
    by_cases he : c = s.self.cpu
    · rw [if_pos ⟨he, by simpa using hl⟩, if_pos he]
    · rw [if_neg fun hh => he hh.1, if_neg he, State.cpu_updMe_paused]

/-- A multi-core operation whose target exists runs; one whose target does not exist is refused (R420). -/
theorem withTarget_of_lt (kind : TargetKind) (n : Nat) (run : Nat → State) (s : State) (h : s.me.a.toNat < n) :
    withTarget kind n run s = .next (run s.me.a.toNat) := if_pos h

theorem withTarget_of_le (kind : TargetKind) (n : Nat) (run : Nat → State) (s : State) (h : n ≤ s.me.a.toNat) :
    withTarget kind n run s = .refused (.targetOutOfRange kind s.me.a.toNat) := if_neg (Nat.not_lt_of_le h)

/-! ## The services of SYSCALL -/

/-- The accesses of a service change no core, no CPU flag, and nothing of the setting (R105, R106). -/
theorem State.access_kept (s : State) (l : List (Word × Option Byte)) :
    (State.access l s).bare = s.bare ∧ SettingKept s (State.access l s) := by
  induction l generalizing s with
  | nil => exact ⟨rfl, rfl, rfl, rfl, rfl, rfl⟩
  | cons x l ih =>
    obtain ⟨a, _ | v⟩ := x
    · obtain ⟨hb, hc, hk, hs, hh, ht⟩ := ih (s.memRead a).2
      exact ⟨hb.trans (s.busRead_bare _ a), hc.trans (by simp), hk.trans (by simp), hs.trans (by simp), hh.trans (by simp),
        ht.trans (by simp)⟩
    · obtain ⟨hb, hc, hk, hs, hh, ht⟩ := ih (s.memWrite a v)
      exact ⟨hb.trans (s.busWrite_bare _ a v), hc.trans (by simp), hk.trans (by simp), hs.trans (by simp),
        hh.trans (by simp), ht.trans (by simp)⟩

/-- Nor do they change the executing core. -/
theorem State.me_access (s : State) (l : List (Word × Option Byte)) : (State.access l s).me = s.me := by
  rw [State.me, (s.access_kept l).2.2.2.1]
  exact State.core_bare (s.access_kept l).1 s.self

/-! ## The fetch -/

/-- The opcode fetch: one read at PC, its byte in IR, the core-cycle counted (R208). -/
theorem State.fetchOpcode_spec (s : State) (h : s.hasCore s.self) :
    s.fetchOpcode = (s.memRead s.me.pc).2.updMe fun _ =>
      { s.me with ir := (s.memRead s.me.pc).1, cycleCount := s.me.cycleCount + 1 } := by
  unfold State.fetchOpcode
  simp only [State.me_updMe _ _ h, State.memRead_updMe, State.updMe_updMe]
  rw [State.updMe_eq_const, State.me_memRead]

/-- Step 4 of the core-cycle where PC is no global breakpoint: nothing (R206). -/
theorem State.passBreakpoint_of_not_mem (s : State) (h : s.me.pc ∉ s.breakpoints) : s.passBreakpoint = s :=
  if_neg fun k => h k.2

/-! ## The interrupt controller -/

/-- A request of an IRQ line sets its pending bit and gives it a route if it has none (R475). -/
theorem State.requestInterrupt_lt (s : State) (i : Irq) :
    s.requestInterrupt i.val = { s with ic := { s.ic with
      pending := s.ic.pending ||| irqBit i
      route := s.ic.route.set i.val (some ((s.ic.route[i]).getD { cpu := 0#4, core := 0#4 })) i.isLt } } := by
  have hi : irqOf i.val = i := Fin.ext (Nat.mod_eq_of_lt i.isLt)
  rw [State.requestInterrupt, if_pos i.isLt]
  simp only [hi]
  cases h : s.ic.route[i] with
  | none => rfl
  | some r =>
    have : s.ic.route.set i.val (some r) i.isLt = s.ic.route := by
      rw [← h]; exact Vector.set_getElem_self _
    simp [this]

/-- A request of a number above 7 is warned of and ignored (R464). -/
theorem State.requestInterrupt_ge (s : State) (n : Nat) (h : 8 ≤ n) :
    s.requestInterrupt n = s.log (.invalidIrq n) := if_neg (Nat.not_lt_of_le h)

/-- The pending bits after an acknowledgement (R476). -/
theorem IcState.acknowledge_pending (ic : IcState) (i j : Irq) :
    (ic.acknowledge i).pending.getLsbD j.val = (!decide (j = i) && ic.pending.getLsbD j.val) := by
  simp only [IcState.acknowledge, irqBit]
  revert i j
  generalize ic.pending = p
  intro i j
  by_cases h : j = i
  · subst h; simp
  · have : j.val ≠ i.val := fun he => h (Fin.ext he)
    simp only [BitVec.getLsbD_and, BitVec.getLsbD_not, BitVec.getLsbD_shiftLeft]
    have hj := j.isLt
    simp [h, hj]
    omega

end Sys2Proof.Machine
end

