-- ==== Sys2Proof/Laws/Moves.lean ====
section
/-! SUPPORT. Said once: everything a core-cycle can do to the computer is a sequence of ten elementary moves. A property
that every move keeps is kept by every instruction, interrupt entry, core-cycle and CPU-cycle. -/

namespace Sys2Proof.Machine

open Sys2Proof

/-- One elementary change of the computer. -/
inductive Move : State → State → Prop where
  /-- The executing core changes. -/
  | me (s : State) (f : CoreState → CoreState) : Move s (s.updMe f)
  /-- The executing core reads a byte. -/
  | read (s : State) (a : Word) : Move s (s.memRead a).2
  /-- The executing core writes a byte. -/
  | write (s : State) (a : Word) (v : Byte) : Move s (s.memWrite a v)
  /-- Some core changes. -/
  | core (s : State) (id : CoreId) (f : CoreState → CoreState) : Move s (s.modifyCore id f)
  /-- Some CPU's own flags change. -/
  | cpu (s : State) (c : Nat) (f : CpuState → CpuState) (h : ∀ p, (f p).cache = p.cache ∧ (f p).cores = p.cores) :
      Move s (s.modifyCpu c f)
  /-- An IRQ is acknowledged. -/
  | acknowledge (s : State) (i : Irq) : Move s { s with ic := s.ic.acknowledge i }
  /-- The program region and every cache are cleared. -/
  | clear (s : State) : Move s s.clearProgram.clearCaches
  /-- An event is logged. -/
  | log (s : State) (e : Event) : Move s (s.log e)
  /-- Another core executes. -/
  | focus (s : State) (id : CoreId) : Move s (s.focus id)
  /-- A free value is drawn. -/
  | draw (s : State) : Move s s.drawn

/-- Any number of moves, one after the other. -/
abbrev Moves : State → State → Prop := Relation.ReflTransGen Move

/-- A property every move keeps is kept by any number of moves. -/
theorem Moves.keeps {P : State → Prop} (h : ∀ s t, Move s t → P s → P t) {s t : State} (hm : Moves s t) (hs : P s) :
    P t := by
  induction hm with
  | refl => exact hs
  | tail _ hb ih => exact h _ _ hb ih

/-- A function of the state that every move keeps is kept by any number of moves. -/
theorem Moves.keeps_value {α : Type} (g : State → α) (h : ∀ s t, Move s t → g t = g s) {s t : State} (hm : Moves s t) :
    g t = g s :=
  Moves.keeps (P := fun u => g u = g s) (fun a b hab ha => (h a b hab).trans ha) hm rfl

/-! ## The shared operations -/

theorem State.updMe_moves (s : State) (f : CoreState → CoreState) : Moves s (s.updMe f) := .single (.me s f)

theorem State.push8_moves (s : State) (v : Byte) : Moves s (s.push8 v) := .tail (.single (.write s _ v)) (.me _ _)

theorem State.pop8_moves (s : State) : Moves s s.pop8.2 := .tail (.single (.me s _)) (.read _ _)

theorem State.memReadBytes_moves (s : State) (n : Nat) (a : Word) : Moves s (s.memReadBytes n a).2 := by
  induction n generalizing s a with
  | zero => exact .refl
  | succ n ih => exact .head (.read s a) (ih _ _)

theorem State.enterInterrupt_moves (s : State) (i : Irq) : Moves s (s.enterInterrupt i) :=
  .tail (.tail (.tail (.tail (.tail (.single (.me s _)) (.write _ _ _)) (.write _ _ _)) (.write _ _ _)) (.me _ _))
    (.acknowledge _ i)

theorem interruptEntry_moves (s t : State) (i : Irq) (h : interruptEntry i s = .next t) : Moves s t := by
  simp only [interruptEntry] at h
  split at h
  · cases h
  · injection h with h
    subst h
    exact .tail (s.enterInterrupt_moves i) (.me _ _)

theorem interruptReturn_moves (s : State) : Moves s (interruptReturn s) :=
  .tail (.trans (.trans s.pop8_moves (State.pop8_moves _)) (State.pop8_moves _)) (.me _ _)

/-! ## The operand forms -/

/-- An answer that only changes the executing core. -/
theorem moves_of_updMe {s t : State} {f : CoreState → CoreState} (h : Host.Outcome.next (s.updMe f) = (.next t : Result)) :
    Moves s t := by
  injection h with h; subst h; exact s.updMe_moves f

theorem loadRegMem_moves {r : Reg} {addr : Word} {s t : State} (h : loadRegMem r addr s = .next t) : Moves s t := by
  injection h with h; subst h; exact .tail (.single (.read s addr)) (.me _ _)

theorem storeMemReg_moves {r : Reg} {addr : Word} {s t : State} (h : storeMemReg r addr s = .next t) : Moves s t := by
  injection h with h; subst h; exact .tail (.single (.write s addr _)) (.me _ _)

theorem pushReg_moves {r : Reg} {s t : State} (h : pushReg r s = .next t) : Moves s t := by
  injection h with h; subst h; exact .tail (s.push8_moves _) (.me _ _)

theorem popReg_moves {r : Reg} {s t : State} (h : popReg r s = .next t) : Moves s t := by
  injection h with h; subst h; exact .tail s.pop8_moves (.me _ _)

theorem withTarget_moves {kind : TargetKind} {n : Nat} {run : Nat → State} {s t : State}
    (hr : ∀ k, Moves s (run k)) (h : withTarget kind n run s = .next t) : Moves s t := by
  simp only [withTarget] at h
  split at h
  · injection h with h; subst h; exact hr _
  · cases h

theorem State.advanceUnless_moves (s : State) (p : Prop) [Decidable p] : Moves s (s.advanceUnless p) := by
  unfold State.advanceUnless
  split
  · exact .refl
  · exact s.updMe_moves _

theorem State.setPcIf_moves (s : State) (gate : Bool) (id : CoreId) (pc : Word) : Moves s (s.setPcIf gate id pc) := by
  unfold State.setPcIf
  split
  · exact .single (.core s id _)
  · exact .refl

theorem State.recordBreakpoint_moves (s : State) : Moves s s.recordBreakpoint :=
  .tail (.single (.me s _)) (.cpu _ _ _ fun _ => ⟨rfl, rfl⟩)

/-! ## The instructions that are no plain form -/

theorem execCall_moves {imm : Word} {s t : State} (h : execCall imm s = .next t) : Moves s t := by
  injection h with h; subst h
  exact .tail (.trans (s.push8_moves _) (State.push8_moves _ _)) (.me _ _)

theorem execRet_moves {s t : State} (h : execRet s = .next t) : Moves s t := by
  injection h with h; subst h
  exact .tail (.trans s.pop8_moves (State.pop8_moves _)) (.me _ _)

theorem execIret_moves {s t : State} (h : execIret s = .next t) : Moves s t := by
  injection h with h; subst h; exact interruptReturn_moves s

theorem State.access_moves (s : State) (l : List (Word × Option Byte)) : Moves s (State.access l s) := by
  induction l generalizing s with
  | nil => exact .refl
  | cons x l ih =>
    obtain ⟨a, _ | v⟩ := x
    · exact .head (.read s a) (ih _)
    · exact .head (.write s a v) (ih _)

theorem State.serve_moves (s : State) (x : Service) : Moves s (s.serve x) :=
  .tail (.head (.draw s) (s.drawn.access_moves _)) (.me _ _)

theorem execSyscall_moves {imm : Byte} {s t : State} (h : execSyscall imm s = .next t) : Moves s t := by
  simp only [execSyscall] at h
  split at h
  · split at h
    · injection h with h; subst h; exact .tail (.single (.clear s)) (.me _ _)
    · exact moves_of_updMe h
  · split at h
    · injection h with h; subst h; exact s.serve_moves _
    · cases h

theorem execBreakpoint_moves {s t : State} (h : execBreakpoint s = .next t) : Moves s t := by
  simp only [execBreakpoint] at h
  split at h
  · exact moves_of_updMe h
  · injection h with h; subst h; exact s.recordBreakpoint_moves

theorem execCoreStatus_moves {s t : State} (h : execCoreStatus s = .next t) : Moves s t :=
  withTarget_moves (fun _ => s.updMe_moves _) h

theorem execCoreStart_moves {s t : State} (h : execCoreStart s = .next t) : Moves s t :=
  withTarget_moves (fun _ => .trans (.single (.core s _ _)) (State.advanceUnless_moves _ _)) h

theorem execCoreHalt_moves {s t : State} (h : execCoreHalt s = .next t) : Moves s t :=
  withTarget_moves (fun _ => .trans (.single (.core s _ _)) (State.advanceUnless_moves _ _)) h

theorem execCoreSetPc_moves {s t : State} (h : execCoreSetPc s = .next t) : Moves s t :=
  withTarget_moves (fun _ => .tail (s.setPcIf_moves _ _ _) (.me _ _)) h

theorem execCpuStatus_moves {s t : State} (h : execCpuStatus s = .next t) : Moves s t :=
  withTarget_moves (fun _ => s.updMe_moves _) h

theorem execCpuStart_moves {s t : State} (h : execCpuStart s = .next t) : Moves s t :=
  withTarget_moves (fun _ => .trans (.single (.cpu s _ (fun p => p.setHalted false) fun _ => ⟨rfl, rfl⟩)) (State.advanceUnless_moves _ _)) h

theorem execCpuHalt_moves {s t : State} (h : execCpuHalt s = .next t) : Moves s t :=
  withTarget_moves (fun _ => .trans (.single (.cpu s _ (fun p => p.setHalted true) fun _ => ⟨rfl, rfl⟩)) (State.advanceUnless_moves _ _)) h

theorem execCpuSetPc_moves {s t : State} (h : execCpuSetPc s = .next t) : Moves s t :=
  withTarget_moves (fun _ => .tail (s.setPcIf_moves _ _ _) (.me _ _)) h

/-- Everything an instruction can do. -/
theorem exec_moves (i : Instr) (s t : State) (h : exec i s = .next t) : Moves s t := by
  cases i
  case call => exact execCall_moves h
  case ret => exact execRet_moves h
  case iret => exact execIret_moves h
  case syscall => exact execSyscall_moves h
  case breakpoint => exact execBreakpoint_moves h
  case coreStatus => exact execCoreStatus_moves h
  case coreStart => exact execCoreStart_moves h
  case coreHalt => exact execCoreHalt_moves h
  case coreSetPc => exact execCoreSetPc_moves h
  case cpuStatus => exact execCpuStatus_moves h
  case cpuStart => exact execCpuStart_moves h
  case cpuHalt => exact execCpuHalt_moves h
  case cpuSetPc => exact execCpuSetPc_moves h
  case movAMem | movBMem | movCMem | movDMem => exact loadRegMem_moves h
  case movMemA | movMemB | movMemC | movMemD => exact storeMemReg_moves h
  case pushA | pushB | pushC | pushD => exact pushReg_moves h
  case popA | popB | popC | popD => exact popReg_moves h
  all_goals exact moves_of_updMe h

/-! ## The core-cycle and the CPU-cycle -/

theorem State.fetchOpcode_moves (s : State) : Moves s s.fetchOpcode :=
  .tail (.tail (.single (.me s _)) (.read _ _)) (.me _ _)

theorem State.fetch_moves (s : State) : Moves s s.fetch.2 :=
  .trans s.fetchOpcode_moves (State.memReadBytes_moves _ _ _)

theorem State.unknownOpcode_moves (s : State) : Moves s s.unknownOpcode := .tail (.single (.me s _)) (.log _ _)

theorem fetchExecute_moves (s t : State) (h : fetchExecute s = .next t) : Moves s t := by
  unfold fetchExecute at h
  split at h
  · exact .trans s.fetch_moves (exec_moves _ _ _ h)
  · injection h with h; subst h; exact .trans s.fetch_moves (State.unknownOpcode_moves _)

theorem State.passBreakpoint_moves (s : State) : Moves s s.passBreakpoint := by
  unfold State.passBreakpoint
  split
  · exact s.updMe_moves _
  · exact .refl

theorem interruptOrExecute_moves (s t : State) (h : interruptOrExecute s = .next t) : Moves s t := by
  unfold interruptOrExecute at h
  split at h
  · exact interruptEntry_moves _ _ _ h
  · exact fetchExecute_moves _ _ h

/-- Everything a core-cycle can do. -/
theorem coreCycle_moves (id : CoreId) (s t : State) (h : coreCycle id s = .next t) : Moves s t := by
  unfold coreCycle at h
  split at h
  · injection h with h; subst h; exact .refl
  · split at h
    · injection h with h; subst h; exact .head (.focus s id) (State.recordBreakpoint_moves _)
    · exact .head (.focus s id) (.trans (State.passBreakpoint_moves _) (interruptOrExecute_moves _ _ h))

/-- A next state of two operations is a next state of the first, and then of the second. -/
theorem thenRun_next (r : Result) (f : State → Result) (t : State) (h : thenRun r f = .next t) :
    ∃ u, r = .next u ∧ f u = .next t := by
  cases r with
  | next u => exact ⟨u, rfl, h⟩
  | fault x => cases h
  | refused x => cases h

theorem coreCycles_moves (c : Nat) (ks : List Nat) (s t : State) (h : coreCycles c ks s = .next t) : Moves s t := by
  induction ks generalizing s with
  | nil => injection h with h; subst h; exact .refl
  | cons k ks ih =>
    obtain ⟨u, hu, ht⟩ := thenRun_next _ _ _ h
    exact .trans (coreCycle_moves _ _ _ hu) (ih u ht)

/-- Everything a CPU-cycle can do. -/
theorem cpuCycle_moves (c : Nat) (b : Bool) (s t : State) (h : cpuCycle c b s = .next t) : Moves s t := by
  unfold cpuCycle at h
  split at h
  · exact coreCycles_moves _ _ _ _ h
  · injection h with h; subst h; exact .refl

/-- A property every move and every host action that runs no core keeps is kept by every step. -/
theorem step_keeps {P : State → Prop} (hmove : ∀ s t, Move s t → P s → P t)
    (hnext : ∀ s, P s → P s.nextAction.2)
    (hflag : ∀ s c b, P s → P (s.modifyCpu c fun p => { p with paused := b }))
    (hbreak : ∀ s l, P s → P { s with breakpoints := addressSet l })
    (hirq : ∀ s irq, P s → P (s.requestInterrupt irq))
    (s t : State) (h : step s = .next t) (hs : P s) : P t := by
  have hn := hnext s hs
  unfold step hostAction at h
  split at h
  · exact Moves.keeps hmove (cpuCycle_moves _ _ _ _ h) hn
  · exact Moves.keeps hmove (cpuCycle_moves _ _ _ _ h) hn
  · injection h with h; subst h; exact hflag _ _ _ hn
  · injection h with h; subst h; exact hflag _ _ _ hn
  · injection h with h; subst h; exact hbreak _ _ hn
  · injection h with h; subst h; exact hirq _ _ hn

end Sys2Proof.Machine
end

