-- ==== Sys2Proof/Laws/PerInstr.lean ====
section
/-! SUPPORT. Statements about every instruction as syntax, one lemma per constructor. -/

namespace Sys2Proof.Laws

open Sys2Proof

/-- A word is its low byte and its high byte (R114). -/
@[simp] theorem w16_lo_hi (w : Word) : w16 (loByte w) (hiByte w) = w := by
  apply BitVec.eq_of_getLsbD_eq
  intro i hi
  simp only [w16, loByte, hiByte, BitVec.getLsbD_append, BitVec.getLsbD_extractLsb']
  by_cases h : i < 8
  · simp [h]
  · rw [if_neg h, show 8 + (i - 8) = i by omega, decide_eq_true (by omega : i - 8 < 8), Bool.true_and]

/-- REF_MAP reads an instruction back from its own opcode byte and operand bytes (R161, R166), whatever stands in the
operand bytes an instruction does not have. -/
def RefCode.Statement (i : Instr) : Prop :=
  ∀ x y : Byte, refInstr i.code (i.operandBytes.getD 0 x) (i.operandBytes.getD 1 y) = some i

theorem RefCode.nop : RefCode.Statement .nop := fun _ _ => rfl
theorem RefCode.halt : RefCode.Statement .halt := fun _ _ => rfl
theorem RefCode.syscall (imm : Byte) : RefCode.Statement (.syscall imm) := fun _ y => (rfl : refInstr 0x02#8 imm y = _)
theorem RefCode.breakpoint : RefCode.Statement .breakpoint := fun _ _ => rfl
theorem RefCode.ei : RefCode.Statement .ei := fun _ _ => rfl
theorem RefCode.di : RefCode.Statement .di := fun _ _ => rfl
theorem RefCode.iret : RefCode.Statement .iret := fun _ _ => rfl
theorem RefCode.ret : RefCode.Statement .ret := fun _ _ => rfl
theorem RefCode.call (imm : Word) : RefCode.Statement (.call imm) := fun _ _ =>
  Eq.trans (rfl : refInstr 0x08#8 (loByte imm) (hiByte imm) = _) (congrArg (fun w => some (Instr.call w)) (w16_lo_hi imm))
theorem RefCode.jmp (imm : Word) : RefCode.Statement (.jmp imm) := fun _ _ =>
  Eq.trans (rfl : refInstr 0x09#8 (loByte imm) (hiByte imm) = _) (congrArg (fun w => some (Instr.jmp w)) (w16_lo_hi imm))
theorem RefCode.jz (imm : Word) : RefCode.Statement (.jz imm) := fun _ _ =>
  Eq.trans (rfl : refInstr 0x0A#8 (loByte imm) (hiByte imm) = _) (congrArg (fun w => some (Instr.jz w)) (w16_lo_hi imm))
theorem RefCode.jnz (imm : Word) : RefCode.Statement (.jnz imm) := fun _ _ =>
  Eq.trans (rfl : refInstr 0x0B#8 (loByte imm) (hiByte imm) = _) (congrArg (fun w => some (Instr.jnz w)) (w16_lo_hi imm))
theorem RefCode.jc (imm : Word) : RefCode.Statement (.jc imm) := fun _ _ =>
  Eq.trans (rfl : refInstr 0x0C#8 (loByte imm) (hiByte imm) = _) (congrArg (fun w => some (Instr.jc w)) (w16_lo_hi imm))
theorem RefCode.jnc (imm : Word) : RefCode.Statement (.jnc imm) := fun _ _ =>
  Eq.trans (rfl : refInstr 0x0D#8 (loByte imm) (hiByte imm) = _) (congrArg (fun w => some (Instr.jnc w)) (w16_lo_hi imm))
theorem RefCode.setSp (imm : Word) : RefCode.Statement (.setSp imm) := fun _ _ =>
  Eq.trans (rfl : refInstr 0x0E#8 (loByte imm) (hiByte imm) = _) (congrArg (fun w => some (Instr.setSp w)) (w16_lo_hi imm))
theorem RefCode.pushA : RefCode.Statement .pushA := fun _ _ => rfl
theorem RefCode.pushB : RefCode.Statement .pushB := fun _ _ => rfl
theorem RefCode.pushC : RefCode.Statement .pushC := fun _ _ => rfl
theorem RefCode.pushD : RefCode.Statement .pushD := fun _ _ => rfl
theorem RefCode.popA : RefCode.Statement .popA := fun _ _ => rfl
theorem RefCode.popB : RefCode.Statement .popB := fun _ _ => rfl
theorem RefCode.popC : RefCode.Statement .popC := fun _ _ => rfl
theorem RefCode.popD : RefCode.Statement .popD := fun _ _ => rfl
theorem RefCode.incA : RefCode.Statement .incA := fun _ _ => rfl
theorem RefCode.incB : RefCode.Statement .incB := fun _ _ => rfl
theorem RefCode.incC : RefCode.Statement .incC := fun _ _ => rfl
theorem RefCode.incD : RefCode.Statement .incD := fun _ _ => rfl
theorem RefCode.decA : RefCode.Statement .decA := fun _ _ => rfl
theorem RefCode.decB : RefCode.Statement .decB := fun _ _ => rfl
theorem RefCode.decC : RefCode.Statement .decC := fun _ _ => rfl
theorem RefCode.decD : RefCode.Statement .decD := fun _ _ => rfl
theorem RefCode.notA : RefCode.Statement .notA := fun _ _ => rfl
theorem RefCode.notB : RefCode.Statement .notB := fun _ _ => rfl
theorem RefCode.notC : RefCode.Statement .notC := fun _ _ => rfl
theorem RefCode.notD : RefCode.Statement .notD := fun _ _ => rfl
theorem RefCode.movAImm (imm : Byte) : RefCode.Statement (.movAImm imm) := fun _ y => (rfl : refInstr 0x24#8 imm y = _)
theorem RefCode.movBImm (imm : Byte) : RefCode.Statement (.movBImm imm) := fun _ y => (rfl : refInstr 0x25#8 imm y = _)
theorem RefCode.movCImm (imm : Byte) : RefCode.Statement (.movCImm imm) := fun _ y => (rfl : refInstr 0x26#8 imm y = _)
theorem RefCode.movDImm (imm : Byte) : RefCode.Statement (.movDImm imm) := fun _ y => (rfl : refInstr 0x27#8 imm y = _)
theorem RefCode.movAMem (addr : Word) : RefCode.Statement (.movAMem addr) := fun _ _ =>
  Eq.trans (rfl : refInstr 0x28#8 (loByte addr) (hiByte addr) = _) (congrArg (fun w => some (Instr.movAMem w)) (w16_lo_hi addr))
theorem RefCode.movBMem (addr : Word) : RefCode.Statement (.movBMem addr) := fun _ _ =>
  Eq.trans (rfl : refInstr 0x29#8 (loByte addr) (hiByte addr) = _) (congrArg (fun w => some (Instr.movBMem w)) (w16_lo_hi addr))
theorem RefCode.movCMem (addr : Word) : RefCode.Statement (.movCMem addr) := fun _ _ =>
  Eq.trans (rfl : refInstr 0x2A#8 (loByte addr) (hiByte addr) = _) (congrArg (fun w => some (Instr.movCMem w)) (w16_lo_hi addr))
theorem RefCode.movDMem (addr : Word) : RefCode.Statement (.movDMem addr) := fun _ _ =>
  Eq.trans (rfl : refInstr 0x2B#8 (loByte addr) (hiByte addr) = _) (congrArg (fun w => some (Instr.movDMem w)) (w16_lo_hi addr))
theorem RefCode.movMemA (addr : Word) : RefCode.Statement (.movMemA addr) := fun _ _ =>
  Eq.trans (rfl : refInstr 0x2C#8 (loByte addr) (hiByte addr) = _) (congrArg (fun w => some (Instr.movMemA w)) (w16_lo_hi addr))
theorem RefCode.movMemB (addr : Word) : RefCode.Statement (.movMemB addr) := fun _ _ =>
  Eq.trans (rfl : refInstr 0x2D#8 (loByte addr) (hiByte addr) = _) (congrArg (fun w => some (Instr.movMemB w)) (w16_lo_hi addr))
theorem RefCode.movMemC (addr : Word) : RefCode.Statement (.movMemC addr) := fun _ _ =>
  Eq.trans (rfl : refInstr 0x2E#8 (loByte addr) (hiByte addr) = _) (congrArg (fun w => some (Instr.movMemC w)) (w16_lo_hi addr))
theorem RefCode.movMemD (addr : Word) : RefCode.Statement (.movMemD addr) := fun _ _ =>
  Eq.trans (rfl : refInstr 0x2F#8 (loByte addr) (hiByte addr) = _) (congrArg (fun w => some (Instr.movMemD w)) (w16_lo_hi addr))
theorem RefCode.movAA : RefCode.Statement .movAA := fun _ _ => rfl
theorem RefCode.movAB : RefCode.Statement .movAB := fun _ _ => rfl
theorem RefCode.movAC : RefCode.Statement .movAC := fun _ _ => rfl
theorem RefCode.movAD : RefCode.Statement .movAD := fun _ _ => rfl
theorem RefCode.movBA : RefCode.Statement .movBA := fun _ _ => rfl
theorem RefCode.movBB : RefCode.Statement .movBB := fun _ _ => rfl
theorem RefCode.movBC : RefCode.Statement .movBC := fun _ _ => rfl
theorem RefCode.movBD : RefCode.Statement .movBD := fun _ _ => rfl
theorem RefCode.movCA : RefCode.Statement .movCA := fun _ _ => rfl
theorem RefCode.movCB : RefCode.Statement .movCB := fun _ _ => rfl
theorem RefCode.movCC : RefCode.Statement .movCC := fun _ _ => rfl
theorem RefCode.movCD : RefCode.Statement .movCD := fun _ _ => rfl
theorem RefCode.movDA : RefCode.Statement .movDA := fun _ _ => rfl
theorem RefCode.movDB : RefCode.Statement .movDB := fun _ _ => rfl
theorem RefCode.movDC : RefCode.Statement .movDC := fun _ _ => rfl
theorem RefCode.movDD : RefCode.Statement .movDD := fun _ _ => rfl
theorem RefCode.addAA : RefCode.Statement .addAA := fun _ _ => rfl
theorem RefCode.addAB : RefCode.Statement .addAB := fun _ _ => rfl
theorem RefCode.addAC : RefCode.Statement .addAC := fun _ _ => rfl
theorem RefCode.addAD : RefCode.Statement .addAD := fun _ _ => rfl
theorem RefCode.addBA : RefCode.Statement .addBA := fun _ _ => rfl
theorem RefCode.addBB : RefCode.Statement .addBB := fun _ _ => rfl
theorem RefCode.addBC : RefCode.Statement .addBC := fun _ _ => rfl
theorem RefCode.addBD : RefCode.Statement .addBD := fun _ _ => rfl
theorem RefCode.addCA : RefCode.Statement .addCA := fun _ _ => rfl
theorem RefCode.addCB : RefCode.Statement .addCB := fun _ _ => rfl
theorem RefCode.addCC : RefCode.Statement .addCC := fun _ _ => rfl
theorem RefCode.addCD : RefCode.Statement .addCD := fun _ _ => rfl
theorem RefCode.addDA : RefCode.Statement .addDA := fun _ _ => rfl
theorem RefCode.addDB : RefCode.Statement .addDB := fun _ _ => rfl
theorem RefCode.addDC : RefCode.Statement .addDC := fun _ _ => rfl
theorem RefCode.addDD : RefCode.Statement .addDD := fun _ _ => rfl
theorem RefCode.subAA : RefCode.Statement .subAA := fun _ _ => rfl
theorem RefCode.subAB : RefCode.Statement .subAB := fun _ _ => rfl
theorem RefCode.subAC : RefCode.Statement .subAC := fun _ _ => rfl
theorem RefCode.subAD : RefCode.Statement .subAD := fun _ _ => rfl
theorem RefCode.subBA : RefCode.Statement .subBA := fun _ _ => rfl
theorem RefCode.subBB : RefCode.Statement .subBB := fun _ _ => rfl
theorem RefCode.subBC : RefCode.Statement .subBC := fun _ _ => rfl
theorem RefCode.subBD : RefCode.Statement .subBD := fun _ _ => rfl
theorem RefCode.subCA : RefCode.Statement .subCA := fun _ _ => rfl
theorem RefCode.subCB : RefCode.Statement .subCB := fun _ _ => rfl
theorem RefCode.subCC : RefCode.Statement .subCC := fun _ _ => rfl
theorem RefCode.subCD : RefCode.Statement .subCD := fun _ _ => rfl
theorem RefCode.subDA : RefCode.Statement .subDA := fun _ _ => rfl
theorem RefCode.subDB : RefCode.Statement .subDB := fun _ _ => rfl
theorem RefCode.subDC : RefCode.Statement .subDC := fun _ _ => rfl
theorem RefCode.subDD : RefCode.Statement .subDD := fun _ _ => rfl
theorem RefCode.andAA : RefCode.Statement .andAA := fun _ _ => rfl
theorem RefCode.andAB : RefCode.Statement .andAB := fun _ _ => rfl
theorem RefCode.andAC : RefCode.Statement .andAC := fun _ _ => rfl
theorem RefCode.andAD : RefCode.Statement .andAD := fun _ _ => rfl
theorem RefCode.andBA : RefCode.Statement .andBA := fun _ _ => rfl
theorem RefCode.andBB : RefCode.Statement .andBB := fun _ _ => rfl
theorem RefCode.andBC : RefCode.Statement .andBC := fun _ _ => rfl
theorem RefCode.andBD : RefCode.Statement .andBD := fun _ _ => rfl
theorem RefCode.andCA : RefCode.Statement .andCA := fun _ _ => rfl
theorem RefCode.andCB : RefCode.Statement .andCB := fun _ _ => rfl
theorem RefCode.andCC : RefCode.Statement .andCC := fun _ _ => rfl
theorem RefCode.andCD : RefCode.Statement .andCD := fun _ _ => rfl
theorem RefCode.andDA : RefCode.Statement .andDA := fun _ _ => rfl
theorem RefCode.andDB : RefCode.Statement .andDB := fun _ _ => rfl
theorem RefCode.andDC : RefCode.Statement .andDC := fun _ _ => rfl
theorem RefCode.andDD : RefCode.Statement .andDD := fun _ _ => rfl
theorem RefCode.orAA : RefCode.Statement .orAA := fun _ _ => rfl
theorem RefCode.orAB : RefCode.Statement .orAB := fun _ _ => rfl
theorem RefCode.orAC : RefCode.Statement .orAC := fun _ _ => rfl
theorem RefCode.orAD : RefCode.Statement .orAD := fun _ _ => rfl
theorem RefCode.orBA : RefCode.Statement .orBA := fun _ _ => rfl
theorem RefCode.orBB : RefCode.Statement .orBB := fun _ _ => rfl
theorem RefCode.orBC : RefCode.Statement .orBC := fun _ _ => rfl
theorem RefCode.orBD : RefCode.Statement .orBD := fun _ _ => rfl
theorem RefCode.orCA : RefCode.Statement .orCA := fun _ _ => rfl
theorem RefCode.orCB : RefCode.Statement .orCB := fun _ _ => rfl
theorem RefCode.orCC : RefCode.Statement .orCC := fun _ _ => rfl
theorem RefCode.orCD : RefCode.Statement .orCD := fun _ _ => rfl
theorem RefCode.orDA : RefCode.Statement .orDA := fun _ _ => rfl
theorem RefCode.orDB : RefCode.Statement .orDB := fun _ _ => rfl
theorem RefCode.orDC : RefCode.Statement .orDC := fun _ _ => rfl
theorem RefCode.orDD : RefCode.Statement .orDD := fun _ _ => rfl
theorem RefCode.xorAA : RefCode.Statement .xorAA := fun _ _ => rfl
theorem RefCode.xorAB : RefCode.Statement .xorAB := fun _ _ => rfl
theorem RefCode.xorAC : RefCode.Statement .xorAC := fun _ _ => rfl
theorem RefCode.xorAD : RefCode.Statement .xorAD := fun _ _ => rfl
theorem RefCode.xorBA : RefCode.Statement .xorBA := fun _ _ => rfl
theorem RefCode.xorBB : RefCode.Statement .xorBB := fun _ _ => rfl
theorem RefCode.xorBC : RefCode.Statement .xorBC := fun _ _ => rfl
theorem RefCode.xorBD : RefCode.Statement .xorBD := fun _ _ => rfl
theorem RefCode.xorCA : RefCode.Statement .xorCA := fun _ _ => rfl
theorem RefCode.xorCB : RefCode.Statement .xorCB := fun _ _ => rfl
theorem RefCode.xorCC : RefCode.Statement .xorCC := fun _ _ => rfl
theorem RefCode.xorCD : RefCode.Statement .xorCD := fun _ _ => rfl
theorem RefCode.xorDA : RefCode.Statement .xorDA := fun _ _ => rfl
theorem RefCode.xorDB : RefCode.Statement .xorDB := fun _ _ => rfl
theorem RefCode.xorDC : RefCode.Statement .xorDC := fun _ _ => rfl
theorem RefCode.xorDD : RefCode.Statement .xorDD := fun _ _ => rfl
theorem RefCode.cmpAA : RefCode.Statement .cmpAA := fun _ _ => rfl
theorem RefCode.cmpAB : RefCode.Statement .cmpAB := fun _ _ => rfl
theorem RefCode.cmpAC : RefCode.Statement .cmpAC := fun _ _ => rfl
theorem RefCode.cmpAD : RefCode.Statement .cmpAD := fun _ _ => rfl
theorem RefCode.cmpBA : RefCode.Statement .cmpBA := fun _ _ => rfl
theorem RefCode.cmpBB : RefCode.Statement .cmpBB := fun _ _ => rfl
theorem RefCode.cmpBC : RefCode.Statement .cmpBC := fun _ _ => rfl
theorem RefCode.cmpBD : RefCode.Statement .cmpBD := fun _ _ => rfl
theorem RefCode.cmpCA : RefCode.Statement .cmpCA := fun _ _ => rfl
theorem RefCode.cmpCB : RefCode.Statement .cmpCB := fun _ _ => rfl
theorem RefCode.cmpCC : RefCode.Statement .cmpCC := fun _ _ => rfl
theorem RefCode.cmpCD : RefCode.Statement .cmpCD := fun _ _ => rfl
theorem RefCode.cmpDA : RefCode.Statement .cmpDA := fun _ _ => rfl
theorem RefCode.cmpDB : RefCode.Statement .cmpDB := fun _ _ => rfl
theorem RefCode.cmpDC : RefCode.Statement .cmpDC := fun _ _ => rfl
theorem RefCode.cmpDD : RefCode.Statement .cmpDD := fun _ _ => rfl
theorem RefCode.testAA : RefCode.Statement .testAA := fun _ _ => rfl
theorem RefCode.testAB : RefCode.Statement .testAB := fun _ _ => rfl
theorem RefCode.testAC : RefCode.Statement .testAC := fun _ _ => rfl
theorem RefCode.testAD : RefCode.Statement .testAD := fun _ _ => rfl
theorem RefCode.testBA : RefCode.Statement .testBA := fun _ _ => rfl
theorem RefCode.testBB : RefCode.Statement .testBB := fun _ _ => rfl
theorem RefCode.testBC : RefCode.Statement .testBC := fun _ _ => rfl
theorem RefCode.testBD : RefCode.Statement .testBD := fun _ _ => rfl
theorem RefCode.testCA : RefCode.Statement .testCA := fun _ _ => rfl
theorem RefCode.testCB : RefCode.Statement .testCB := fun _ _ => rfl
theorem RefCode.testCC : RefCode.Statement .testCC := fun _ _ => rfl
theorem RefCode.testCD : RefCode.Statement .testCD := fun _ _ => rfl
theorem RefCode.testDA : RefCode.Statement .testDA := fun _ _ => rfl
theorem RefCode.testDB : RefCode.Statement .testDB := fun _ _ => rfl
theorem RefCode.testDC : RefCode.Statement .testDC := fun _ _ => rfl
theorem RefCode.testDD : RefCode.Statement .testDD := fun _ _ => rfl
theorem RefCode.addAImm (imm : Byte) : RefCode.Statement (.addAImm imm) := fun _ y => (rfl : refInstr 0xB0#8 imm y = _)
theorem RefCode.addBImm (imm : Byte) : RefCode.Statement (.addBImm imm) := fun _ y => (rfl : refInstr 0xB1#8 imm y = _)
theorem RefCode.addCImm (imm : Byte) : RefCode.Statement (.addCImm imm) := fun _ y => (rfl : refInstr 0xB2#8 imm y = _)
theorem RefCode.addDImm (imm : Byte) : RefCode.Statement (.addDImm imm) := fun _ y => (rfl : refInstr 0xB3#8 imm y = _)
theorem RefCode.subAImm (imm : Byte) : RefCode.Statement (.subAImm imm) := fun _ y => (rfl : refInstr 0xB4#8 imm y = _)
theorem RefCode.subBImm (imm : Byte) : RefCode.Statement (.subBImm imm) := fun _ y => (rfl : refInstr 0xB5#8 imm y = _)
theorem RefCode.subCImm (imm : Byte) : RefCode.Statement (.subCImm imm) := fun _ y => (rfl : refInstr 0xB6#8 imm y = _)
theorem RefCode.subDImm (imm : Byte) : RefCode.Statement (.subDImm imm) := fun _ y => (rfl : refInstr 0xB7#8 imm y = _)
theorem RefCode.andAImm (imm : Byte) : RefCode.Statement (.andAImm imm) := fun _ y => (rfl : refInstr 0xB8#8 imm y = _)
theorem RefCode.andBImm (imm : Byte) : RefCode.Statement (.andBImm imm) := fun _ y => (rfl : refInstr 0xB9#8 imm y = _)
theorem RefCode.andCImm (imm : Byte) : RefCode.Statement (.andCImm imm) := fun _ y => (rfl : refInstr 0xBA#8 imm y = _)
theorem RefCode.andDImm (imm : Byte) : RefCode.Statement (.andDImm imm) := fun _ y => (rfl : refInstr 0xBB#8 imm y = _)
theorem RefCode.orAImm (imm : Byte) : RefCode.Statement (.orAImm imm) := fun _ y => (rfl : refInstr 0xBC#8 imm y = _)
theorem RefCode.orBImm (imm : Byte) : RefCode.Statement (.orBImm imm) := fun _ y => (rfl : refInstr 0xBD#8 imm y = _)
theorem RefCode.orCImm (imm : Byte) : RefCode.Statement (.orCImm imm) := fun _ y => (rfl : refInstr 0xBE#8 imm y = _)
theorem RefCode.orDImm (imm : Byte) : RefCode.Statement (.orDImm imm) := fun _ y => (rfl : refInstr 0xBF#8 imm y = _)
theorem RefCode.xorAImm (imm : Byte) : RefCode.Statement (.xorAImm imm) := fun _ y => (rfl : refInstr 0xC0#8 imm y = _)
theorem RefCode.xorBImm (imm : Byte) : RefCode.Statement (.xorBImm imm) := fun _ y => (rfl : refInstr 0xC1#8 imm y = _)
theorem RefCode.xorCImm (imm : Byte) : RefCode.Statement (.xorCImm imm) := fun _ y => (rfl : refInstr 0xC2#8 imm y = _)
theorem RefCode.xorDImm (imm : Byte) : RefCode.Statement (.xorDImm imm) := fun _ y => (rfl : refInstr 0xC3#8 imm y = _)
theorem RefCode.cmpAImm (imm : Byte) : RefCode.Statement (.cmpAImm imm) := fun _ y => (rfl : refInstr 0xC4#8 imm y = _)
theorem RefCode.cmpBImm (imm : Byte) : RefCode.Statement (.cmpBImm imm) := fun _ y => (rfl : refInstr 0xC5#8 imm y = _)
theorem RefCode.cmpCImm (imm : Byte) : RefCode.Statement (.cmpCImm imm) := fun _ y => (rfl : refInstr 0xC6#8 imm y = _)
theorem RefCode.cmpDImm (imm : Byte) : RefCode.Statement (.cmpDImm imm) := fun _ y => (rfl : refInstr 0xC7#8 imm y = _)
theorem RefCode.testAImm (imm : Byte) : RefCode.Statement (.testAImm imm) := fun _ y => (rfl : refInstr 0xC8#8 imm y = _)
theorem RefCode.testBImm (imm : Byte) : RefCode.Statement (.testBImm imm) := fun _ y => (rfl : refInstr 0xC9#8 imm y = _)
theorem RefCode.testCImm (imm : Byte) : RefCode.Statement (.testCImm imm) := fun _ y => (rfl : refInstr 0xCA#8 imm y = _)
theorem RefCode.testDImm (imm : Byte) : RefCode.Statement (.testDImm imm) := fun _ y => (rfl : refInstr 0xCB#8 imm y = _)
theorem RefCode.shlAImm (imm : Byte) : RefCode.Statement (.shlAImm imm) := fun _ y => (rfl : refInstr 0xCC#8 imm y = _)
theorem RefCode.shlBImm (imm : Byte) : RefCode.Statement (.shlBImm imm) := fun _ y => (rfl : refInstr 0xCD#8 imm y = _)
theorem RefCode.shlCImm (imm : Byte) : RefCode.Statement (.shlCImm imm) := fun _ y => (rfl : refInstr 0xCE#8 imm y = _)
theorem RefCode.shlDImm (imm : Byte) : RefCode.Statement (.shlDImm imm) := fun _ y => (rfl : refInstr 0xCF#8 imm y = _)
theorem RefCode.shrAImm (imm : Byte) : RefCode.Statement (.shrAImm imm) := fun _ y => (rfl : refInstr 0xD0#8 imm y = _)
theorem RefCode.shrBImm (imm : Byte) : RefCode.Statement (.shrBImm imm) := fun _ y => (rfl : refInstr 0xD1#8 imm y = _)
theorem RefCode.shrCImm (imm : Byte) : RefCode.Statement (.shrCImm imm) := fun _ y => (rfl : refInstr 0xD2#8 imm y = _)
theorem RefCode.shrDImm (imm : Byte) : RefCode.Statement (.shrDImm imm) := fun _ y => (rfl : refInstr 0xD3#8 imm y = _)
theorem RefCode.rolAImm (imm : Byte) : RefCode.Statement (.rolAImm imm) := fun _ y => (rfl : refInstr 0xD4#8 imm y = _)
theorem RefCode.rolBImm (imm : Byte) : RefCode.Statement (.rolBImm imm) := fun _ y => (rfl : refInstr 0xD5#8 imm y = _)
theorem RefCode.rolCImm (imm : Byte) : RefCode.Statement (.rolCImm imm) := fun _ y => (rfl : refInstr 0xD6#8 imm y = _)
theorem RefCode.rolDImm (imm : Byte) : RefCode.Statement (.rolDImm imm) := fun _ y => (rfl : refInstr 0xD7#8 imm y = _)
theorem RefCode.rorAImm (imm : Byte) : RefCode.Statement (.rorAImm imm) := fun _ y => (rfl : refInstr 0xD8#8 imm y = _)
theorem RefCode.rorBImm (imm : Byte) : RefCode.Statement (.rorBImm imm) := fun _ y => (rfl : refInstr 0xD9#8 imm y = _)
theorem RefCode.rorCImm (imm : Byte) : RefCode.Statement (.rorCImm imm) := fun _ y => (rfl : refInstr 0xDA#8 imm y = _)
theorem RefCode.rorDImm (imm : Byte) : RefCode.Statement (.rorDImm imm) := fun _ y => (rfl : refInstr 0xDB#8 imm y = _)
theorem RefCode.coreCount : RefCode.Statement .coreCount := fun _ _ => rfl
theorem RefCode.coreStatus : RefCode.Statement .coreStatus := fun _ _ => rfl
theorem RefCode.coreStart : RefCode.Statement .coreStart := fun _ _ => rfl
theorem RefCode.coreHalt : RefCode.Statement .coreHalt := fun _ _ => rfl
theorem RefCode.coreSetPc : RefCode.Statement .coreSetPc := fun _ _ => rfl
theorem RefCode.cpuCount : RefCode.Statement .cpuCount := fun _ _ => rfl
theorem RefCode.cpuStatus : RefCode.Statement .cpuStatus := fun _ _ => rfl
theorem RefCode.cpuStart : RefCode.Statement .cpuStart := fun _ _ => rfl
theorem RefCode.cpuHalt : RefCode.Statement .cpuHalt := fun _ _ => rfl
theorem RefCode.cpuSetPc : RefCode.Statement .cpuSetPc := fun _ _ => rfl

end Sys2Proof.Laws
end

