-- ==== Sys2Proof/Laws/Storage.lean ====
section
/-! SUPPORT. What a write leaves of storage, and what a RAM write reads back as. -/

namespace Sys2Proof.Machine

open Sys2Proof

/-- The byte CPU `c` reads at a storage address: the cached one in RAM, else the stored one. -/
def State.storageByte (s : State) (c : Nat) (a : Word) : Byte :=
  if a ≤ s.cfg.romEnd then s.mem.read a.toNat else ((s.cpu c).cache.lookup a).getD (s.mem.read a.toNat)

/-- What a CPU reads at a storage address (R105). -/
theorem State.busRead_storage (s : State) (c : Nat) (a : Word) (h : isStorage s.cfg a) :
    (s.busRead c a).1 = s.storageByte c a := by
  unfold State.busRead State.storageByte
  rcases (isStorage_iff s.cfg a).mp h with hr | hr
  · rw [hr, if_pos ((regionOf_rom _ _).mp hr)]
  · have := ((regionOf_ram _ _).mp hr).1
    rw [hr, if_neg (by bv_omega)]
    simp only [State.ramRead]
    cases (s.cpu c).cache.lookup a <;> rfl

/-- The cache of CPU `d` after a RAM write by CPU `c`: unchanged, or with the one address invalidated (R110). -/
theorem State.cache_invalidate (s : State) (c d : Nat) (a : Word) :
    ((s.invalidate c a).cpu d).cache = (s.cpu d).cache ∨
      ((s.invalidate c a).cpu d).cache = (s.cpu d).cache.invalidate a := by
  unfold State.invalidate
  split
  · rw [State.cpu_modifyCpu]
    split
    · next h => exact .inr (by rw [h.1])
    · exact .inl rfl
  · rw [State.cpu_map]
    split
    · exact .inr rfl
    · exact .inl rfl

/-- The writing CPU's cache holds nothing at the address after the write (R110). -/
theorem State.lookup_invalidate_self (s : State) (c : Nat) (a : Word) (h : c < s.numCpus) :
    ((s.invalidate c a).cpu c).cache.lookup a = none := by
  unfold State.invalidate
  split
  · rw [State.cpu_modifyCpu_self _ _ _ h]
    exact Cache.lookup_invalidate_self ..
  · rw [State.cpu_map, if_pos h]
    exact Cache.lookup_invalidate_self ..

/-- A write leaves every other address of storage, as stored and as read by every CPU. -/
theorem State.busWrite_kept (s : State) (c : Nat) (a : Word) (v : Byte) :
    StorageKeptOutside s (s.busWrite c a v) [a] := by
  refine ⟨fun n hn => ?_, fun d b hb hs => ?_⟩
  · rw [State.busWrite_mem]
    split
    · exact Memory.read_write_ne _ _ _ _ fun he => hn a (List.mem_singleton.mpr rfl) he.symm
    · rfl
  · have hne : b ≠ a := fun he => hb (List.mem_singleton.mpr he)
    have hnat : b.toNat ≠ a.toNat := fun he => hne (BitVec.eq_of_toNat_eq he)
    rw [State.busRead_storage _ _ _ (by rw [State.busWrite_cfg]; exact hs), State.busRead_storage _ _ _ hs]
    unfold State.storageByte
    rw [State.busWrite_cfg]
    have hmem : (s.busWrite c a v).mem.read b.toNat = s.mem.read b.toNat := by
      rw [State.busWrite_mem]
      split
      · exact Memory.read_write_ne _ _ _ _ hnat
      · rfl
    rw [hmem]
    suffices h : ((s.busWrite c a v).cpu d).cache.lookup b = (s.cpu d).cache.lookup b by rw [h]
    cases hr : regionOf s.cfg a with
    | rom => rw [State.busWrite_rom _ _ _ _ hr]; rfl
    | io slot port =>
      rw [State.busWrite_io _ _ _ _ _ _ hr]
      unfold State.slotWrite
      split
      · obtain ⟨_, _, h⟩ := s.writeIcPort_shape port v
        rw [h]; rfl
      · split <;> rfl
    | ram =>
      rw [State.busWrite_ram _ _ _ _ hr]
      rcases State.cache_invalidate { s with mem := s.mem.write a.toNat v } c d a with h | h
      · rw [h]; rfl
      · rw [h, Cache.lookup_invalidate_ne _ _ _ hne]; rfl

/-- What two stretches leave, the first outside `l` and the second outside `m`, together outside both. -/
theorem StorageKeptOutside.trans {s t u : State} {l m : List Word} (h : StorageKeptOutside s t l)
    (k : StorageKeptOutside t u m) (hcfg : t.cfg = s.cfg) : StorageKeptOutside s u (l ++ m) :=
  ⟨fun n hn => (k.1 n fun a ha => hn a (List.mem_append_right _ ha)).trans
      (h.1 n fun a ha => hn a (List.mem_append_left _ ha)),
    fun c a ha hs => (k.2 c a (fun hm => ha (List.mem_append_right _ hm)) (hcfg ▸ hs)).trans
      (h.2 c a (fun hl => ha (List.mem_append_left _ hl)) hs)⟩

/-- A change of the executing core leaves storage. -/
theorem State.updMe_kept (s : State) (f : CoreState → CoreState) : StorageKeptOutside s (s.updMe f) [] :=
  ⟨fun _ _ => rfl, fun c a _ _ => (machineKept_modifyCore s s.self f).1 c a⟩

/-- A byte written to RAM is stored, in canonical storage. -/
theorem State.busWrite_stored (s : State) (c : Nat) (a : Word) (v : Byte)
    (hm : s.mem.Pairwise fun x y => x.1 < y.1) (hr : regionOf s.cfg a = .ram) :
    (s.busWrite c a v).mem.read a.toNat = v := by
  rw [State.busWrite_mem, if_pos hr, Memory.read_write_self _ _ _ hm]

/-- A write keeps storage canonical. -/
theorem State.busWrite_wf (s : State) (c : Nat) (a : Word) (v : Byte) (h : s.mem.wf) : (s.busWrite c a v).mem.wf := by
  rw [State.busWrite_mem]
  split
  · next hr =>
    refine Memory.wf_write _ _ _ h ?_
    have := ((regionOf_ram _ _).mp hr).2
    bv_omega
  · exact h

/-- The writing CPU reads the byte it wrote to RAM, in canonical storage (R112). -/
theorem State.busRead_busWrite_self (s : State) (c : Nat) (a : Word) (v : Byte) (h : c < s.numCpus)
    (hm : s.mem.Pairwise fun x y => x.1 < y.1) (hr : regionOf s.cfg a = .ram) :
    ((s.busWrite c a v).busRead c a).1 = v := by
  have hs : isStorage (s.busWrite c a v).cfg a := by
    rw [State.busWrite_cfg]; exact (isStorage_iff _ _).mpr (.inr hr)
  rw [State.busRead_storage _ _ _ hs, State.storageByte, State.busWrite_stored s c a v hm hr]
  have := ((regionOf_ram _ _).mp hr).1
  rw [if_neg (by rw [State.busWrite_cfg]; bv_omega), State.busWrite_ram _ _ _ _ hr,
    State.lookup_invalidate_self { s with mem := s.mem.write a.toNat v } c a h]
  rfl

/-- Loading a byte keeps storage canonical. -/
theorem State.loadByte_wf (s : State) (a : Word) (v : Byte) (h : s.mem.wf) : (s.loadByte a v).mem.wf := by
  unfold State.loadByte
  split
  · next hio => exact Memory.wf_write _ _ _ h (by bv_omega)
  · exact h

/-- The clear of SYSCALL 0 keeps storage canonical. -/
theorem State.clearProgram_wf (s : State) (h : s.mem.wf) : s.clearProgram.mem.wf := Memory.wf_clear _ _ _ h

end Sys2Proof.Machine
end

