-- ==== Sys2Proof/Tests/Slice0.lean ====
section
/-! SUPPORT. Tests: well-formedness refuses, every encoding is read as its instruction, the spec's own vectors
(95_test_vectors.md), and for every obligation with hypotheses a witness that meets them. -/

namespace Sys2Proof.Tests

open Sys2Proof Sys2Proof.Machine

/-! ## Helpers -/

/-- The next state, if there is one. -/
def nextOf (r : Result) : Option State :=
  match r with
  | .next s => some s
  | .fault _ => none
  | .refused _ => none

theorem exists_next {r : Result} (h : (nextOf r).isSome = true) : ∃ t, r = .next t := by
  cases r with
  | next s => exact ⟨s, rfl⟩
  | fault x => cases h
  | refused x => cases h

/-- A part of the next state, if there is one. -/
def after {α : Type} (r : Result) (f : State → α) : Option α := (nextOf r).map f

/-- The reason of a refusal, if there is one. -/
def refusalOf (r : Result) : Option Refusal :=
  match r with
  | .next _ => none
  | .fault _ => none
  | .refused x => some x

/-- Two steps. -/
def steps2 (s : State) : Result := thenRun (step s) step

/-- The reference machine with this storage, and core 0 of CPU 0 changed. -/
def one (image : Memory) (f : CoreState → CoreState) : State :=
  (State.launch Config.reference referenceShape image []).modifyCore ⟨0, 0⟩ f

/-- Two CPUs of two cores each, CPU 1 and the cores 1 halted, as the reference has it (D26). -/
def two (image : Memory) (f : CoreState → CoreState) : State :=
  (State.launch Config.reference
    [{ halted := false, coresHalted := [false, true] }, { halted := true, coresHalted := [false, true] }]
    image []).modifyCore ⟨0, 0⟩ f

/-- A machine with this interrupt controller. -/
def withIc (s : State) (ic : IcState) : State := { s with ic := ic }

/-- A machine with this cache in CPU `c`. -/
def withCache (s : State) (c : Nat) (e : Cache) : State := s.modifyCpu c fun p => { p with cache := e }

/-- The controller with IRQ 0 pending, enabled and routed to core 0 of CPU 0. -/
def icReady (handler : Word) : IcState :=
  { IcState.atReset with
    enabled := 0x01#8, pending := 0x01#8, handlerAddr := handler
    route := IcState.atReset.route.set 0 (some { cpu := 0#4, core := 0#4 }) }

/-! ## Well-formedness -/

theorem test_referenceIsWellFormed : Config.reference.wf = true := by decide

theorem test_refuses_duplicateOpcode : OpcodeMap.wf [(0x0F#8, some 0x00#8), (0x0F#8, none)] = false := by decide

theorem test_refuses_missingKind : OpcodeMap.wf [(0x00#8, some 0xFF#8)] = false := by decide

theorem test_refuses_unassignedInstruction : Instr.wf [(0x00#8, none)] .nop = false := by decide

theorem test_accepts_movedInstruction : Instr.wf [(0x00#8, none), (0x0F#8, some 0x00#8)] .nop = true := by decide

theorem test_refuses_gapAfterRom : Config.mapWf { Config.reference with romEnd := 0x0FFE#16 } = false := by decide

theorem test_refuses_emptyOs : Config.mapWf
    { Config.reference with osEnd := 0x0FFF#16, programStart := 0x1000#16 } = false := by decide

theorem test_refuses_overlapOfProgram : Config.mapWf { Config.reference with programStart := 0x1FFF#16 } = false := by
  decide

theorem test_refuses_emptyProgram : Config.mapWf
    { Config.reference with programEnd := 0x1FFF#16, stackStart := 0x2000#16 } = false := by decide

theorem test_refuses_gapBeforeStack : Config.mapWf { Config.reference with stackStart := 0xF001#16 } = false := by decide

theorem test_refuses_emptyStack : Config.mapWf
    { Config.reference with programEnd := 0xFEFF#16, stackStart := 0xFF00#16 } = false := by decide

theorem test_refuses_stackInIo : Config.mapWf { Config.reference with stackEnd := 0xFF00#16 } = false := by decide

theorem test_refuses_slot16 : Config.slotsWf { Config.reference with icSlot := 16 } = false := by decide

theorem test_refuses_deviceInControllerSlot : Config.slotsWf { Config.reference with hostDevices := [4] } = false := by
  decide

theorem test_refuses_deviceSlot16 : Config.slotsWf { Config.reference with hostDevices := [16] } = false := by decide

theorem test_refuses_twoDevicesInOneSlot : Config.slotsWf { Config.reference with hostDevices := [1, 1] } = false := by
  decide

theorem test_refuses_serviceOfZero : Config.syscallWf { Config.reference with syscallOther := [0#8] } = false := by decide

theorem test_refuses_serviceTwice : Config.syscallWf { Config.reference with syscallOther := [5#8, 5#8] } = false := by
  decide

theorem test_refuses_noCpu : shapeWf [] = false := by decide

theorem test_refuses_cpuWithoutCore : shapeWf [{ halted := false, coresHalted := [false] }, { halted := true, coresHalted := [] }]
    = false := by decide

theorem test_accepts_referenceShape : shapeWf referenceShape = true := by decide

theorem test_refuses_unsortedMemory : ¬ Memory.wf [(2, 1#8), (1, 1#8)] := by decide

theorem test_refuses_listedZero : ¬ Memory.wf [(1, 0#8)] := by decide

theorem test_refuses_ioInMemory : ¬ Memory.wf [(0xFF00, 1#8)] := by decide

/-! ## Encodings, written bit by bit from 30_encoding.md (R162, R165, R166) -/

/-- Each word, of so many bits, is read as its instruction. -/
def readsAs (l : List (Nat × Nat × Instr)) : Bool := l.all fun x => decodeTableWord x.1 x.2.1 == some x.2.2

theorem test_decodeSystem : readsAs
    [(8, 0b00000000, .nop), (8, 0b00000001, .halt), (16, 0b10100101_00000010, .syscall 0xA5#8),
      (8, 0b00000011, .breakpoint), (8, 0b00000100, .ei), (8, 0b00000101, .di)] = true := by decide

theorem test_decodeControl : readsAs
    [(8, 0b00000110, .iret), (8, 0b00000111, .ret), (24, 0b00010010_11001101_00001000, .call 0x12CD#16),
      (24, 0b00010010_11001101_00001001, .jmp 0x12CD#16), (24, 0b00010010_11001101_00001010, .jz 0x12CD#16),
      (24, 0b00010010_11001101_00001011, .jnz 0x12CD#16), (24, 0b00010010_11001101_00001100, .jc 0x12CD#16),
      (24, 0b00010010_11001101_00001101, .jnc 0x12CD#16), (24, 0b00010010_11001101_00001110, .setSp 0x12CD#16)] = true := by decide

theorem test_decodeStack : readsAs
    [(8, 0b00010000, .pushA), (8, 0b00010001, .pushB), (8, 0b00010010, .pushC), (8, 0b00010011, .pushD),
      (8, 0b00010100, .popA), (8, 0b00010101, .popB), (8, 0b00010110, .popC), (8, 0b00010111, .popD)] = true := by decide

theorem test_decodeUnary : readsAs
    [(8, 0b00011000, .incA), (8, 0b00011001, .incB), (8, 0b00011010, .incC), (8, 0b00011011, .incD),
      (8, 0b00011100, .decA), (8, 0b00011101, .decB), (8, 0b00011110, .decC), (8, 0b00011111, .decD),
      (8, 0b00100000, .notA), (8, 0b00100001, .notB), (8, 0b00100010, .notC), (8, 0b00100011, .notD)] = true := by decide

theorem test_decodeMovImmMem : readsAs
    [(16, 0b10100101_00100100, .movAImm 0xA5#8), (16, 0b10100101_00100101, .movBImm 0xA5#8),
      (16, 0b10100101_00100110, .movCImm 0xA5#8), (16, 0b10100101_00100111, .movDImm 0xA5#8),
      (24, 0b00010010_11001101_00101000, .movAMem 0x12CD#16), (24, 0b00010010_11001101_00101001, .movBMem 0x12CD#16),
      (24, 0b00010010_11001101_00101010, .movCMem 0x12CD#16), (24, 0b00010010_11001101_00101011, .movDMem 0x12CD#16),
      (24, 0b00010010_11001101_00101100, .movMemA 0x12CD#16), (24, 0b00010010_11001101_00101101, .movMemB 0x12CD#16),
      (24, 0b00010010_11001101_00101110, .movMemC 0x12CD#16), (24, 0b00010010_11001101_00101111, .movMemD 0x12CD#16)] = true := by decide

theorem test_decodeMov : readsAs
    [(8, 0b00110000, .movAA), (8, 0b00110001, .movAB), (8, 0b00110010, .movAC), (8, 0b00110011, .movAD),
      (8, 0b00110100, .movBA), (8, 0b00110101, .movBB), (8, 0b00110110, .movBC), (8, 0b00110111, .movBD),
      (8, 0b00111000, .movCA), (8, 0b00111001, .movCB), (8, 0b00111010, .movCC), (8, 0b00111011, .movCD),
      (8, 0b00111100, .movDA), (8, 0b00111101, .movDB), (8, 0b00111110, .movDC), (8, 0b00111111, .movDD)] = true := by decide

theorem test_decodeAdd : readsAs
    [(8, 0b01000000, .addAA), (8, 0b01000001, .addAB), (8, 0b01000010, .addAC), (8, 0b01000011, .addAD),
      (8, 0b01000100, .addBA), (8, 0b01000101, .addBB), (8, 0b01000110, .addBC), (8, 0b01000111, .addBD),
      (8, 0b01001000, .addCA), (8, 0b01001001, .addCB), (8, 0b01001010, .addCC), (8, 0b01001011, .addCD),
      (8, 0b01001100, .addDA), (8, 0b01001101, .addDB), (8, 0b01001110, .addDC), (8, 0b01001111, .addDD)] = true := by decide

theorem test_decodeSub : readsAs
    [(8, 0b01010000, .subAA), (8, 0b01010001, .subAB), (8, 0b01010010, .subAC), (8, 0b01010011, .subAD),
      (8, 0b01010100, .subBA), (8, 0b01010101, .subBB), (8, 0b01010110, .subBC), (8, 0b01010111, .subBD),
      (8, 0b01011000, .subCA), (8, 0b01011001, .subCB), (8, 0b01011010, .subCC), (8, 0b01011011, .subCD),
      (8, 0b01011100, .subDA), (8, 0b01011101, .subDB), (8, 0b01011110, .subDC), (8, 0b01011111, .subDD)] = true := by decide

theorem test_decodeAnd : readsAs
    [(8, 0b01100000, .andAA), (8, 0b01100001, .andAB), (8, 0b01100010, .andAC), (8, 0b01100011, .andAD),
      (8, 0b01100100, .andBA), (8, 0b01100101, .andBB), (8, 0b01100110, .andBC), (8, 0b01100111, .andBD),
      (8, 0b01101000, .andCA), (8, 0b01101001, .andCB), (8, 0b01101010, .andCC), (8, 0b01101011, .andCD),
      (8, 0b01101100, .andDA), (8, 0b01101101, .andDB), (8, 0b01101110, .andDC), (8, 0b01101111, .andDD)] = true := by decide

theorem test_decodeOr : readsAs
    [(8, 0b01110000, .orAA), (8, 0b01110001, .orAB), (8, 0b01110010, .orAC), (8, 0b01110011, .orAD),
      (8, 0b01110100, .orBA), (8, 0b01110101, .orBB), (8, 0b01110110, .orBC), (8, 0b01110111, .orBD),
      (8, 0b01111000, .orCA), (8, 0b01111001, .orCB), (8, 0b01111010, .orCC), (8, 0b01111011, .orCD),
      (8, 0b01111100, .orDA), (8, 0b01111101, .orDB), (8, 0b01111110, .orDC), (8, 0b01111111, .orDD)] = true := by decide

theorem test_decodeXor : readsAs
    [(8, 0b10000000, .xorAA), (8, 0b10000001, .xorAB), (8, 0b10000010, .xorAC), (8, 0b10000011, .xorAD),
      (8, 0b10000100, .xorBA), (8, 0b10000101, .xorBB), (8, 0b10000110, .xorBC), (8, 0b10000111, .xorBD),
      (8, 0b10001000, .xorCA), (8, 0b10001001, .xorCB), (8, 0b10001010, .xorCC), (8, 0b10001011, .xorCD),
      (8, 0b10001100, .xorDA), (8, 0b10001101, .xorDB), (8, 0b10001110, .xorDC), (8, 0b10001111, .xorDD)] = true := by decide

theorem test_decodeCmp : readsAs
    [(8, 0b10010000, .cmpAA), (8, 0b10010001, .cmpAB), (8, 0b10010010, .cmpAC), (8, 0b10010011, .cmpAD),
      (8, 0b10010100, .cmpBA), (8, 0b10010101, .cmpBB), (8, 0b10010110, .cmpBC), (8, 0b10010111, .cmpBD),
      (8, 0b10011000, .cmpCA), (8, 0b10011001, .cmpCB), (8, 0b10011010, .cmpCC), (8, 0b10011011, .cmpCD),
      (8, 0b10011100, .cmpDA), (8, 0b10011101, .cmpDB), (8, 0b10011110, .cmpDC), (8, 0b10011111, .cmpDD)] = true := by decide

theorem test_decodeTest : readsAs
    [(8, 0b10100000, .testAA), (8, 0b10100001, .testAB), (8, 0b10100010, .testAC), (8, 0b10100011, .testAD),
      (8, 0b10100100, .testBA), (8, 0b10100101, .testBB), (8, 0b10100110, .testBC), (8, 0b10100111, .testBD),
      (8, 0b10101000, .testCA), (8, 0b10101001, .testCB), (8, 0b10101010, .testCC), (8, 0b10101011, .testCD),
      (8, 0b10101100, .testDA), (8, 0b10101101, .testDB), (8, 0b10101110, .testDC), (8, 0b10101111, .testDD)] = true := by decide

theorem test_decodeAluImm : readsAs
    [(16, 0b10100101_10110000, .addAImm 0xA5#8), (16, 0b10100101_10110001, .addBImm 0xA5#8),
      (16, 0b10100101_10110010, .addCImm 0xA5#8), (16, 0b10100101_10110011, .addDImm 0xA5#8),
      (16, 0b10100101_10110100, .subAImm 0xA5#8), (16, 0b10100101_10110101, .subBImm 0xA5#8),
      (16, 0b10100101_10110110, .subCImm 0xA5#8), (16, 0b10100101_10110111, .subDImm 0xA5#8),
      (16, 0b10100101_10111000, .andAImm 0xA5#8), (16, 0b10100101_10111001, .andBImm 0xA5#8),
      (16, 0b10100101_10111010, .andCImm 0xA5#8), (16, 0b10100101_10111011, .andDImm 0xA5#8),
      (16, 0b10100101_10111100, .orAImm 0xA5#8), (16, 0b10100101_10111101, .orBImm 0xA5#8),
      (16, 0b10100101_10111110, .orCImm 0xA5#8), (16, 0b10100101_10111111, .orDImm 0xA5#8)] = true := by decide

theorem test_decodeAluImm2 : readsAs
    [(16, 0b10100101_11000000, .xorAImm 0xA5#8), (16, 0b10100101_11000001, .xorBImm 0xA5#8),
      (16, 0b10100101_11000010, .xorCImm 0xA5#8), (16, 0b10100101_11000011, .xorDImm 0xA5#8),
      (16, 0b10100101_11000100, .cmpAImm 0xA5#8), (16, 0b10100101_11000101, .cmpBImm 0xA5#8),
      (16, 0b10100101_11000110, .cmpCImm 0xA5#8), (16, 0b10100101_11000111, .cmpDImm 0xA5#8),
      (16, 0b10100101_11001000, .testAImm 0xA5#8), (16, 0b10100101_11001001, .testBImm 0xA5#8),
      (16, 0b10100101_11001010, .testCImm 0xA5#8), (16, 0b10100101_11001011, .testDImm 0xA5#8)] = true := by decide

theorem test_decodeShift : readsAs
    [(16, 0b10100101_11001100, .shlAImm 0xA5#8), (16, 0b10100101_11001101, .shlBImm 0xA5#8),
      (16, 0b10100101_11001110, .shlCImm 0xA5#8), (16, 0b10100101_11001111, .shlDImm 0xA5#8),
      (16, 0b10100101_11010000, .shrAImm 0xA5#8), (16, 0b10100101_11010001, .shrBImm 0xA5#8),
      (16, 0b10100101_11010010, .shrCImm 0xA5#8), (16, 0b10100101_11010011, .shrDImm 0xA5#8),
      (16, 0b10100101_11010100, .rolAImm 0xA5#8), (16, 0b10100101_11010101, .rolBImm 0xA5#8),
      (16, 0b10100101_11010110, .rolCImm 0xA5#8), (16, 0b10100101_11010111, .rolDImm 0xA5#8),
      (16, 0b10100101_11011000, .rorAImm 0xA5#8), (16, 0b10100101_11011001, .rorBImm 0xA5#8),
      (16, 0b10100101_11011010, .rorCImm 0xA5#8), (16, 0b10100101_11011011, .rorDImm 0xA5#8)] = true := by decide

theorem test_decodeMulticore : readsAs
    [(8, 0b11100000, .coreCount), (8, 0b11100001, .coreStatus), (8, 0b11100010, .coreStart),
      (8, 0b11100011, .coreHalt), (8, 0b11100100, .coreSetPc), (8, 0b11100101, .cpuCount),
      (8, 0b11100110, .cpuStatus), (8, 0b11100111, .cpuStart), (8, 0b11101000, .cpuHalt), (8, 0b11101001, .cpuSetPc)] = true := by decide
theorem test_unassigned : ([0x0F, 0xDC, 0xDF, 0xEA, 0xFF].all fun w => decodeTableWord 8 w == none) = true := by decide

theorem test_decodeMoved : decode [(0x00#8, none), (0xEE#8, some 0x24#8)] [0xEE#8, 0x07#8, 0x01#8]
    = .ok (.movAImm 0x07#8, [0x01#8]) := by decide

theorem test_decodeTruncated : decode [] [0x09#8, 0x34#8] = .error .truncated := by decide

/-! ## The ALU functions (95_test_vectors.md 2.1) -/

theorem test_add : aluAdd 0xFF#8 0x01#8 = ⟨0x00#8, true, true⟩ ∧ aluAdd 0x7F#8 0x01#8 = ⟨0x80#8, false, false⟩ ∧
    aluAdd 0xFF#8 0xFF#8 = ⟨0xFE#8, false, true⟩ := by decide

theorem test_sub : aluSub 0x03#8 0x05#8 = ⟨0xFE#8, false, true⟩ ∧ aluSub 0x05#8 0x05#8 = ⟨0x00#8, true, false⟩ ∧
    aluSub 0xFF#8 0x00#8 = ⟨0xFF#8, false, false⟩ := by decide

theorem test_logic : aluAnd 0xAB#8 0x0F#8 = ⟨0x0B#8, false, false⟩ ∧ aluOr 0xA0#8 0x05#8 = ⟨0xA5#8, false, false⟩ ∧
    aluXor 0x0F#8 0xFF#8 = ⟨0xF0#8, false, false⟩ ∧ aluNot 0x5A#8 = ⟨0xA5#8, false, false⟩ := by decide

theorem test_incDec : aluInc 0xFF#8 = ⟨0x00#8, true, false⟩ ∧ aluDec 0x00#8 = ⟨0xFF#8, false, false⟩ ∧
    aluDec 0x01#8 = ⟨0x00#8, true, false⟩ := by decide

theorem test_shl : aluShl 0x81#8 1 = ⟨0x02#8, false, true⟩ ∧ aluShl 0x81#8 0 = ⟨0x81#8, false, false⟩ ∧
    aluShl 0x01#8 8 = ⟨0x00#8, true, true⟩ ∧ aluShl 0xFF#8 9 = ⟨0x00#8, true, false⟩ := by decide

theorem test_shr : aluShr 0x03#8 1 = ⟨0x01#8, false, true⟩ ∧ aluShr 0x80#8 7 = ⟨0x01#8, false, false⟩ ∧
    aluShr 0x80#8 8 = ⟨0x00#8, true, true⟩ ∧ aluShr 0xFF#8 9 = ⟨0x00#8, true, false⟩ := by decide

theorem test_rol : aluRol 0x80#8 1 true = ⟨0x01#8, false, true⟩ ∧ aluRol 0x81#8 4 false = ⟨0x14#8, false, false⟩ ∧
    aluRol 0x55#8 9 true = ⟨0x55#8, false, true⟩ ∧ aluRol 0x01#8 0 true = ⟨0x01#8, false, true⟩ := by decide

theorem test_ror : aluRor 0x01#8 1 true = ⟨0x80#8, false, true⟩ ∧ aluRor 0x81#8 4 true = ⟨0x38#8, false, false⟩ ∧
    aluRor 0xA6#8 3 true = ⟨0xB4#8, false, true⟩ := by decide

/-! ## ALU instructions (V1 to V12, and the examples of R254 to R274) -/

theorem test_addAB : after (exec .addAB (one [] fun m => { m with a := 0xF0#8, b := 0x20#8 }))
    (fun t => (t.me.a, t.me.flags, t.me.pc)) = some (0x10#8, 0x01#8, 0x0001#16) := by decide

theorem test_addAA : after (exec .addAA (one [] fun m => { m with a := 0x80#8 }))
    (fun t => (t.me.a, t.me.flags)) = some (0x00#8, 0x03#8) := by decide

theorem test_addAB_keepsHighFlags : after
    (exec .addAB (one [] fun m => { m with a := 0x01#8, b := 0x01#8, flags := 0xFC#8 }))
    (fun t => (t.me.a, t.me.flags)) = some (0x02#8, 0xFC#8) := by decide

theorem test_addBImm : after (exec (.addBImm 0x01#8) (one [] fun m => { m with b := 0xFF#8 }))
    (fun t => (t.me.b, t.me.flags, t.me.pc)) = some (0x00#8, 0x03#8, 0x0002#16) := by decide

theorem test_subAB : after (exec .subAB (one [] fun m => { m with a := 0x03#8, b := 0x05#8 }))
    (fun t => (t.me.a, t.me.b, t.me.flags)) = some (0xFE#8, 0x05#8, 0x01#8) := by decide

theorem test_subCImm : after (exec (.subCImm 0xF0#8) (one [] fun m => { m with c := 0x10#8 }))
    (fun t => (t.me.c, t.me.flags, t.me.pc)) = some (0x20#8, 0x01#8, 0x0002#16) := by decide

theorem test_andDImm : after (exec (.andDImm 0x0F#8) (one [] fun m => { m with d := 0xAB#8, flags := 0x01#8 }))
    (fun t => (t.me.d, t.me.flags)) = some (0x0B#8, 0x00#8) := by decide

theorem test_andAB : after (exec .andAB (one [] fun m => { m with a := 0xF0#8, b := 0x0F#8 }))
    (fun t => (t.me.a, t.me.flags)) = some (0x00#8, 0x02#8) := by decide

theorem test_orAImm : after (exec (.orAImm 0x80#8) (one [] fun m => { m with a := 0x01#8 }))
    (fun t => (t.me.a, t.me.flags)) = some (0x81#8, 0x00#8) := by decide

theorem test_orAB : after (exec .orAB (one [] id)) (fun t => (t.me.a, t.me.flags)) = some (0x00#8, 0x02#8) := by decide

theorem test_xorAA : after (exec .xorAA (one [] fun m => { m with a := 0x5A#8 }))
    (fun t => (t.me.a, t.me.flags)) = some (0x00#8, 0x02#8) := by decide

theorem test_xorBImm : after (exec (.xorBImm 0xFF#8) (one [] fun m => { m with b := 0x0F#8 }))
    (fun t => (t.me.b, t.me.flags)) = some (0xF0#8, 0x00#8) := by decide

theorem test_cmpAB : after (exec .cmpAB (one [] fun m => { m with a := 0x05#8, b := 0x07#8 }))
    (fun t => (t.me.a, t.me.b, t.me.flags)) = some (0x05#8, 0x07#8, 0x01#8) := by decide

theorem test_cmpBImm : after (exec (.cmpBImm 0x07#8) (one [] fun m => { m with b := 0x07#8 }))
    (fun t => (t.me.b, t.me.flags)) = some (0x07#8, 0x02#8) := by decide

theorem test_testAB : after (exec .testAB (one [] fun m => { m with a := 0x80#8, b := 0x7F#8 }))
    (fun t => (t.me.a, t.me.b, t.me.flags)) = some (0x80#8, 0x7F#8, 0x02#8) := by decide

theorem test_testDImm : after (exec (.testDImm 0x7F#8) (one [] fun m => { m with d := 0x80#8 }))
    (fun t => (t.me.d, t.me.flags)) = some (0x80#8, 0x02#8) := by decide

theorem test_incA : after (exec .incA (one [] fun m => { m with a := 0xFF#8, flags := 0x01#8 }))
    (fun t => (t.me.a, t.me.flags)) = some (0x00#8, 0x02#8) := by decide

theorem test_decC : after (exec .decC (one [] id)) (fun t => (t.me.c, t.me.flags)) = some (0xFF#8, 0x00#8) := by decide

theorem test_notA : after (exec .notA (one [] fun m => { m with a := 0x0F#8 }))
    (fun t => (t.me.a, t.me.flags)) = some (0xF0#8, 0x00#8) := by decide

theorem test_shlAImm : after (exec (.shlAImm 0x01#8) (one [] fun m => { m with a := 0x81#8 }))
    (fun t => (t.me.a, t.me.flags)) = some (0x02#8, 0x01#8) := by decide

theorem test_shrAImm : after (exec (.shrAImm 0x01#8) (one [] fun m => { m with a := 0x01#8 }))
    (fun t => (t.me.a, t.me.flags)) = some (0x00#8, 0x03#8) := by decide

theorem test_rolAImm : after (exec (.rolAImm 0x01#8) (one [] fun m => { m with a := 0x80#8, flags := 0x01#8 }))
    (fun t => (t.me.a, t.me.flags)) = some (0x01#8, 0x01#8) := by decide

theorem test_rorBImm : after (exec (.rorBImm 0x01#8) (one [] fun m => { m with b := 0x01#8 }))
    (fun t => (t.me.b, t.me.flags)) = some (0x00#8, 0x03#8) := by decide

/-! ## Data transfer, stack and control transfer (V13 to V35) -/

theorem test_movAB : after (exec .movAB (one [] fun m => { m with b := 0x42#8, flags := 0x03#8 }))
    (fun t => (t.me.a, t.me.flags, t.me.pc)) = some (0x42#8, 0x03#8, 0x0001#16) := by decide

theorem test_movBMem : after (exec (.movBMem 0x2000#16) (one [(0x2000, 0x7E#8)] id))
    (fun t => (t.me.b, (t.cpu 0).cache, t.me.pc)) = some (0x7E#8, [(0x2000#16, 0x7E#8)], 0x0003#16) := by decide

theorem test_movMemA : after (exec (.movMemA 0x2000#16)
      (withCache (one [(0x2000, 0x7E#8)] fun m => { m with a := 0x01#8 }) 0 [(0x2000#16, 0x7E#8)]))
    (fun t => (t.mem, (t.cpu 0).cache)) = some ([(0x2000, 0x01#8)], []) := by decide

theorem test_movMemA_rom : after (exec (.movMemA 0x0100#16) (one [] fun m => { m with a := 0x99#8 }))
    (fun t => (t.mem, t.events, t.me.pc)) = some ([], [.romWrite 0x0100#16 0x99#8], 0x0003#16) := by decide

theorem test_movCMem_rom : after (exec (.movCMem 0x0123#16) (one [(0x0123, 0x5C#8)] id))
    (fun t => (t.me.c, (t.cpu 0).cache)) = some (0x5C#8, []) := by decide

theorem test_movAMem_emptySlot : after (exec (.movAMem 0xFF00#16) (one [] fun m => { m with a := 0x11#8 }))
    (fun t => t.me.a) = some 0x00#8 := by decide

theorem test_pushB : after (exec .pushB (one [] fun m => { m with sp := 0xFEFF#16, b := 0x33#8 }))
    (fun t => (t.mem, t.me.sp)) = some ([(0xFEFF, 0x33#8)], 0xFEFE#16) := by decide

theorem test_pushA_wraps : after (exec .pushA (one [] fun m => { m with a := 0x77#8 }))
    (fun t => (t.events, t.me.sp)) = some ([.romWrite 0x0000#16 0x77#8], 0xFFFF#16) := by decide

theorem test_popC : after (exec .popC (one [(0xFEFF, 0x33#8)] fun m => { m with sp := 0xFEFE#16 }))
    (fun t => (t.me.c, t.me.sp)) = some (0x33#8, 0xFEFF#16) := by decide

theorem test_popA_wraps : after (exec .popA (one [(0, 0x5A#8)] fun m => { m with sp := 0xFFFF#16 }))
    (fun t => (t.me.a, t.me.sp)) = some (0x5A#8, 0x0000#16) := by decide

theorem test_setSp : after (exec (.setSp 0xFEFF#16) (one [] id)) (fun t => (t.me.sp, t.me.pc))
    = some (0xFEFF#16, 0x0003#16) := by decide

theorem test_jmp : after (exec (.jmp 0x1234#16) (one [] id)) (fun t => t.me.pc) = some 0x1234#16 := by decide

theorem test_jz : after (exec (.jz 0x0000#16) (one [] fun m => { m with pc := 0x0010#16, flags := 0x02#8 }))
      (fun t => t.me.pc) = some 0x0000#16 ∧
    after (exec (.jz 0x0000#16) (one [] fun m => { m with pc := 0x0010#16 })) (fun t => t.me.pc)
      = some 0x0013#16 := by decide

theorem test_jnz : after (exec (.jnz 0x0004#16) (one [] id)) (fun t => t.me.pc) = some 0x0004#16 := by decide

theorem test_jc : after (exec (.jc 0x0100#16) (one [] fun m => { m with flags := 0x01#8 }))
    (fun t => t.me.pc) = some 0x0100#16 := by decide

theorem test_jnc : after (exec (.jnc 0x0000#16) (one [] fun m => { m with pc := 0x0020#16, flags := 0x01#8 }))
    (fun t => t.me.pc) = some 0x0023#16 := by decide

theorem test_call : after (exec (.call 0x0010#16) (one [] fun m => { m with sp := 0xFEFF#16, pc := 0x0005#16 }))
    (fun t => (t.mem, t.me.sp, t.me.pc)) = some ([(0xFEFE, 0x08#8)], 0xFEFD#16, 0x0010#16) := by decide

theorem test_ret : after (exec .ret (one [(0xFEFE, 0x08#8)] fun m => { m with sp := 0xFEFD#16, pc := 0x0010#16 }))
    (fun t => (t.me.sp, t.me.pc)) = some (0xFEFF#16, 0x0008#16) := by decide

theorem test_iret : after (exec .iret (one [(0xFEFD, 0x12#8), (0xFEFF, 0xFF#8)]
      fun m => { m with sp := 0xFEFC#16, ie := false, inHandler := true }))
    (fun t => (t.me.pc, t.me.flags, t.me.sp, t.me.ie, t.me.inHandler))
      = some (0x0012#16, 0xFF#8, 0xFEFF#16, true, false) := by decide

/-! ## System and multi-core instructions (V36 to V59, S9, S13) -/

theorem test_nop : after (exec .nop (one [] fun m => { m with pc := 0xFFFF#16 })) (fun t => t.me.pc)
    = some 0x0000#16 := by decide

theorem test_halt : after (exec .halt (one [] fun m => { m with pc := 0x0100#16 }))
    (fun t => (t.me.halted, t.me.pc, (t.cpu 0).halted)) = some (true, 0x0101#16, false) := by decide

theorem test_syscall0 : after (exec (.syscall 0x00#8) (withCache
      (one [(0x1000, 0x77#8), (0x2000, 0x55#8), (0xEFFF, 0x66#8), (0xF000, 0x88#8)] id) 0 [(0x2000#16, 0x55#8)]))
    (fun t => (t.mem, (t.cpu 0).cache, t.me.pc))
      = some ([(0x1000, 0x77#8), (0xF000, 0x88#8)], [], 0x1000#16) := by decide

theorem test_syscall0_otherCore : after (exec (.syscall 0x00#8)
      ((one [(0x2000, 0x55#8)] id).modifyCore ⟨0, 1⟩ (fun m => { m with halted := false, pc := 0x0030#16 }) |>.focus ⟨0, 1⟩))
    (fun t => (t.mem, t.me.halted, t.me.pc)) = some ([(0x2000, 0x55#8)], true, 0x0032#16) := by decide

theorem test_syscall5 : refusalOf (exec (.syscall 0x05#8) (one [] id)) = some (.syscallOther 0x05#8 0 0 0x0000#16) := by
  decide

/-- The reference machine, but SYSCALL 5 has a service. -/
def served : State := { one [] (fun m => { m with flags := 0x03#8 }) with
  cfg := { Config.reference with syscallOther := [5#8] } }

/-- Whatever the service leaves in A and PC, FLAGS are as before. -/
theorem test_syscall5_service : after
      (.next (served.serve ⟨7#8, 0#8, 0#8, 0#8, 0x0002#16, [(0x2000#16, some 9#8), (0x2000#16, none)]⟩))
    (fun t => (t.me.a, t.me.pc, t.me.flags, t.mem)) = some (7#8, 0x0002#16, 0x03#8, [(0x2000, 9#8)]) := by decide

theorem test_breakpoint_records : after (exec .breakpoint (one [] fun m => { m with pc := 0x0001#16 }))
    (fun t => (t.me.currentBreakpoint, (t.cpu 0).paused, t.me.pc)) = some (some 0x0001#16, true, 0x0001#16) := by decide

theorem test_breakpoint_passes : after
      (exec .breakpoint (one [] fun m => { m with pc := 0x0001#16, currentBreakpoint := some 0x0001#16 }))
    (fun t => (t.me.currentBreakpoint, (t.cpu 0).paused, t.me.pc)) = some (none, false, 0x0002#16) := by decide

theorem test_ei : after (exec .ei (one [] fun m => { m with ie := false })) (fun t => t.me.ie) = some true := by decide

theorem test_di : after (exec .di (one [] id)) (fun t => t.me.ie) = some false := by decide

theorem test_coreCount : after (exec .coreCount (one [] id)) (fun t => t.me.a) = some 2#8 := by decide

theorem test_coreStatus : after (exec .coreStatus (one [] fun m => { m with a := 1#8 })) (fun t => t.me.a) = some 1#8 ∧
    after (exec .coreStatus (one [] id)) (fun t => t.me.a) = some 0#8 := by decide

theorem test_coreStatus_absent : refusalOf (exec .coreStatus (one [] fun m => { m with a := 2#8 }))
    = some (.targetOutOfRange .core 2) := by decide

theorem test_coreSetPc : after (exec .coreSetPc (one [] fun m => { m with a := 1#8, c := 0x30#8 }))
    (fun t => ((t.core ⟨0, 1⟩).pc, t.me.pc)) = some (0x0030#16, 0x0001#16) := by decide

theorem test_coreSetPc_running : after (exec .coreSetPc ((one [] fun m => { m with a := 1#8, c := 0x30#8 }).modifyCore
      ⟨0, 1⟩ fun m => { m with halted := false, pc := 0x0040#16 }))
    (fun t => ((t.core ⟨0, 1⟩).pc, t.me.pc)) = some (0x0040#16, 0x0001#16) := by decide

theorem test_coreStart : after (exec .coreStart (one [] fun m => { m with a := 1#8 }))
    (fun t => ((t.core ⟨0, 1⟩).halted, t.me.pc)) = some (false, 0x0001#16) := by decide

theorem test_coreStart_self : after (exec .coreStart (one [] id)) (fun t => t.me.pc) = some 0x0000#16 := by decide

theorem test_coreHalt_self : after (exec .coreHalt (one [] fun m => { m with pc := 0x0100#16 }))
    (fun t => (t.me.halted, t.me.pc)) = some (true, 0x0100#16) := by decide

theorem test_coreHalt : after (exec .coreHalt
      ((one [] id).modifyCore ⟨0, 1⟩ (fun m => { m with halted := false, pc := 0x0200#16 }) |>.focus ⟨0, 1⟩))
    (fun t => ((t.core ⟨0, 0⟩).halted, t.me.pc)) = some (true, 0x0201#16) := by decide

theorem test_cpuCount : after (exec .cpuCount (two [] id)) (fun t => t.me.a) = some 2#8 := by decide

theorem test_cpuStatus : after (exec .cpuStatus (two [] fun m => { m with a := 1#8 })) (fun t => t.me.a) = some 1#8 := by
  decide

theorem test_cpuSetPc : after (exec .cpuSetPc (two [] fun m => { m with a := 1#8, d := 0x30#8 }))
    (fun t => ((t.core ⟨1, 0⟩).pc, t.me.pc)) = some (0x3000#16, 0x0001#16) := by decide

theorem test_cpuStart : after (exec .cpuStart (two [] fun m => { m with a := 1#8 }))
    (fun t => ((t.cpu 1).halted, t.me.pc)) = some (false, 0x0001#16) := by decide

theorem test_cpuHalt : after (exec .cpuHalt ((two [] fun m => { m with a := 1#8 }).modifyCpu 1
      fun p => { p with halted := false }))
    (fun t => ((t.cpu 1).halted, t.me.pc)) = some (true, 0x0001#16) := by decide

theorem test_cpuHalt_self : after (exec .cpuHalt (two [] id))
    (fun t => ((t.cpu 0).halted, t.me.pc)) = some (true, 0x0000#16) := by decide

theorem test_cpuSetPc_absent : refusalOf (exec .cpuSetPc (two [] fun m => { m with a := 2#8 }))
    = some (.targetOutOfRange .cpu 2) := by decide

/-! ## The interrupt controller (V60 to V69) -/

theorem test_request : ((State.reset.requestInterrupt 3).ic.pending, (State.reset.requestInterrupt 3).ic.route[3]) =
    (0x08#8, some { cpu := 0#4, core := 0#4 }) := by decide

theorem test_request_invalid : (State.reset.requestInterrupt 9) = { State.reset with events := [.invalidIrq 9] } := by
  decide

theorem test_routePorts : ((((State.reset.requestInterrupt 3).writeIcPort 7 0x31#8).writeIcPort 6 0x35#8).ic.route[3]) =
    some { cpu := 5#4, core := 1#4 } := by decide

theorem test_route_unrequested : (State.reset.writeIcPort 6 0x21#8).events = [.routeUnrequested 2 6 0x21#8] := by decide

theorem test_route_invalid : (State.reset.writeIcPort 6 0x91#8).events = [.invalidIrq 9] := by decide

theorem test_pendingView : IcState.readPort { IcState.atReset with pending := 0x05#8, mask := 0x04#8 } 1 = 0x01#8 := by
  decide

theorem test_acknowledgePort : ((withIc State.reset { IcState.atReset with pending := 0x03#8 }).writeIcPort 2 0xF9#8).ic.pending
    = 0x01#8 := by decide

theorem test_handlerPorts : ((withIc State.reset { IcState.atReset with handlerAddr := 0x1234#16 }).writeIcPort 4 0x00#8).ic.handlerAddr
      = 0x1200#16 ∧
    (((withIc State.reset { IcState.atReset with handlerAddr := 0x1200#16 }).writeIcPort 5 0x20#8).ic.handlerAddr)
      = 0x2000#16 := by decide

/-- IRQ 0 routed to core 0, IRQ 1 to core 1, both pending and enabled (V69). -/
def icTwo : IcState :=
  { IcState.atReset with
    enabled := 0x03#8, pending := 0x03#8
    route := (IcState.atReset.route.set 0 (some { cpu := 0#4, core := 0#4 })).set 1 (some { cpu := 0#4, core := 1#4 }) }

theorem test_selectIrq : (withIc State.reset icTwo).selectIrq ⟨0, 0⟩ = some 0 ∧
    (withIc State.reset icTwo).selectIrq ⟨0, 1⟩ = some 1 := by decide

/-- The same with IRQ_SELECT at its alternative. -/
def lowest : State := { withIc State.reset icTwo with cfg := { Config.reference with irqSelect := .lowestThenRoute } }

theorem test_selectIrq_lowest : lowest.selectIrq ⟨0, 0⟩ = some 0 ∧ lowest.selectIrq ⟨0, 1⟩ = none := by decide

theorem test_selectIrq_masked : (withIc State.reset
      { icTwo with mask := 0x02#8, route := IcState.atReset.route }).selectIrq ⟨0, 0⟩ = some 0 := by decide

/-! ## The caches (V74 to V77) -/

/-- A cache of 128 entries, the oldest at 0x3000. -/
def fullCache : Cache := (List.range 128).map fun k => (BitVec.ofNat 16 (0x3000 + k), 0#8)

theorem test_cacheEvictsOldest : (Cache.insert fullCache 0x3080#16 0#8).head? = some (0x3001#16, 0#8) ∧
    (Cache.insert fullCache 0x3080#16 0#8).length = 128 := by decide +kernel

theorem test_cacheHitKeepsOrder : ((withCache (one [] id) 0 [(0x3000#16, 1#8), (0x3001#16, 2#8)]).busRead 0 0x3000#16)
    = (1#8, withCache (one [] id) 0 [(0x3000#16, 1#8), (0x3001#16, 2#8)]) := by decide

theorem test_cacheInvalidate : Cache.invalidate [(0x3000#16, 1#8), (0x3001#16, 2#8), (0x3002#16, 3#8)] 0x3001#16
    = [(0x3000#16, 1#8), (0x3002#16, 3#8)] := by decide

/-- CPU 1 holds 0x4000, and CPU 0 writes it (V77). -/
def crossWrite (scope : InvalidateScope) : State :=
  ({ withCache (two [(0x4000, 0x11#8)] id) 1 [(0x4000#16, 0x11#8)] with
      cfg := { Config.reference with invalidateScope := scope } }).busWrite 0 0x4000#16 0x22#8

theorem test_staleRead : ((crossWrite .ownCpu).busRead 1 0x4000#16).1 = 0x11#8 ∧
    ((crossWrite .ownCpu).busRead 0 0x4000#16).1 = 0x22#8 ∧
    ((crossWrite .allCpus).busRead 1 0x4000#16).1 = 0x22#8 := by decide

/-! ## The cycle (V40 to V44, V70 to V73, V79 to V82, S10) -/

theorem test_resetFetchesNop : after (step State.reset) (fun t => ((t.core ⟨0, 0⟩).pc, (t.core ⟨0, 0⟩).cycleCount))
    = some (0x0001#16, 1) := by decide

theorem test_withFetchWord : after (step (State.reset.withFetchWord 24 0b00010010_00110100_00001001))
    (fun t => ((t.core ⟨0, 0⟩).pc, (t.core ⟨0, 0⟩).ir)) = some (0x1234#16, 0x09#8) := by decide

theorem test_unknownOpcode : after (step (one [(0x0010, 0xDC#8)] fun m => { m with pc := 0x0010#16 }))
    (fun t => ((t.core ⟨0, 0⟩).pc, (t.core ⟨0, 0⟩).halted, t.events))
      = some (0x0011#16, true, [.unknownOpcode 0 0 0x0010#16 0xDC#8]) := by decide

theorem test_fetchFromIo : after (step (one [] fun m => { m with pc := 0xFFFD#16 })) (fun t => (t.core ⟨0, 0⟩).pc)
    = some 0xFFFE#16 := by decide

theorem test_globalBreakpoint : after (step { one [] id with breakpoints := [0x0000#16] })
    (fun t => ((t.cpu 0).paused, (t.core ⟨0, 0⟩).currentBreakpoint, (t.core ⟨0, 0⟩).cycleCount))
      = some (true, some 0x0000#16, 0) := by decide

theorem test_passesRecordedBreakpoint : after
      (step { one [] (fun m => { m with currentBreakpoint := some 0x0000#16 }) with breakpoints := [0x0000#16] })
    (fun t => ((t.core ⟨0, 0⟩).currentBreakpoint, (t.core ⟨0, 0⟩).pc)) = some (none, 0x0001#16) := by decide

theorem test_pausedCpuDoesNothing : nextOf (step { ((one [] id).modifyCpu 0 fun p => { p with paused := true }) with
      host := [.tick 0] })
    = some ((one [] id).modifyCpu 0 fun p => { p with paused := true }) := by decide

theorem test_debugStep : after (step { (one [(0, 0x03#8)] fun m => { m with currentBreakpoint := some 0x0000#16 }).modifyCpu
      0 (fun p => { p with paused := true }) with host := [.debugStep 0] })
    (fun t => ((t.core ⟨0, 0⟩).pc, (t.cpu 0).paused)) = some (0x0001#16, true) := by decide

theorem test_interruptEntry : after
      (step (withIc (one [] fun m => { m with sp := 0xFEFF#16, pc := 0x0012#16 }) (icReady 0x0020#16)))
    (fun t => (t.mem, (t.core ⟨0, 0⟩).sp, (t.core ⟨0, 0⟩).pc, t.ic.pending, (t.core ⟨0, 0⟩).cycleCount))
      = some ([(0xFEFD, 0x12#8)], 0xFEFC#16, 0x0020#16, 0x00#8, 0) := by decide

/-- The part of a fault's state a test looks at. -/
def faultAt {α : Type} (r : Result) (f : Irq → Nat → Nat → State → α) : Option α :=
  match r with
  | .fault (.zeroHandler i c k s) => some (f i c k s)
  | .next _ => none
  | .refused _ => none

theorem test_zeroHandler : faultAt
      (step (withIc (one [] fun m => { m with sp := 0xFEFF#16, pc := 0x0008#16 }) (icReady 0x0000#16)))
    (fun i _ _ t => (i, t.mem, (t.core ⟨0, 0⟩).sp, (t.core ⟨0, 0⟩).pc))
      = some ((0 : Irq), [(0xFEFD, 0x08#8)], 0xFEFC#16, 0x0008#16) := by decide

theorem test_noEntryInHandler : after (step (withIc (one [] fun m => { m with inHandler := true }) (icReady 0x0020#16)))
    (fun t => ((t.core ⟨0, 0⟩).pc, t.ic.pending)) = some (0x0001#16, 0x01#8) := by decide

/-- Core 1 starts at the same byte with its own A of 0, so it starts core 0 and advances. -/
theorem test_startedCoreRunsInTheSameCycle : after (step (one [(0x0000, 0xE2#8)] fun m => { m with a := 1#8 }))
    (fun t => ((t.core ⟨0, 0⟩).pc, (t.core ⟨0, 1⟩).pc, (t.core ⟨0, 1⟩).halted)) = some (0x0001#16, 0x0001#16, false) := by
  decide

theorem test_roundRobin : after (steps2 (two [] id)) (fun t => (t.turn, (t.core ⟨0, 0⟩).pc, (t.core ⟨1, 0⟩).pc))
    = some (0, 0x0001#16, 0x0000#16) := by decide

theorem test_controllerWrite : after (exec (.movMemA 0xFF40#16) (one [] fun m => { m with a := 0x01#8 }))
    (fun t => (t.ic.enabled, t.events)) = some (0x01#8, []) := by decide

theorem test_deviceWrite : after (exec (.movMemA 0xFF12#16)
      { one [] (fun m => { m with a := 0x07#8 }) with cfg := { Config.reference with hostDevices := [1] } })
    (fun t => t.events) = some [.deviceWrite 1 2 0x07#8] := by decide

/-- A device's answer is whatever it is: the register takes it, and one answer is drawn. -/
theorem test_deviceRead : after (exec (.movAMem 0xFF12#16)
      { one [] id with cfg := { Config.reference with hostDevices := [1] } })
    (fun t => (t.me.a, t.oracleDraws)) = some (Config.deviceAnswer 0 1 2, 1) := rfl

/-! ## Witnesses: states and operands that meet the hypotheses of the obligations -/

theorem exists_after {r : Result} {f : State → Bool} (h : after r f = some true) : ∃ t, r = .next t ∧ f t = true := by
  cases r with
  | next s => exact ⟨s, rfl, Option.some.inj h⟩
  | fault x => cases h
  | refused x => cases h

/-- A machine at work: a program byte, a cached byte, a global breakpoint and a stack up to `sp`; this controller. -/
def busy (sp pc : Word) (ic : IcState) : State :=
  { withCache (one [(0x0100, 0x46#8), (0x2000, 0x7E#8)] fun m => { m with a := 1#8, sp := sp, pc := pc }) 0
      [(0x2000#16, 0x7E#8)] with ic := ic, breakpoints := [0x0300#16] }

/-- An IRQ pending and routed, its handler at 0x0020, the stack at its first byte below the I/O window. -/
def ran : State := busy 0xFEFF#16 0x0100#16 (icReady 0x0020#16)

/-- No IRQ, the stack at the last place where three bytes still fit above ROM. -/
def low : State := busy 0x1002#16 0x0100#16 IcState.atReset

/-- The one hypothesis of AddWritesSumAndCarry, SubWritesDifferenceAndBorrow, LogicWritesResultAndClearsCarry,
CompareAndTestWriteFlagsOnly, IncDecNotClearCarry, ShiftsKeepTheLastBitOut, RotatesTurnTheNineBitPair,
MovesWriteTheirDestination, LoadReadsItsAddress, StoreWritesItsAddress, PushAndPopMoveTheStackPointer,
JumpsFollowTheirFlag, CallPushesAndReturnPops, InterruptReturnRestoresContext and SystemFlagsOfTheCore. -/
theorem witness_hasCore : ran.hasCore ran.self ∧ (ran.focus ⟨0, 1⟩).hasCore ⟨0, 1⟩ := by decide

theorem forall_of_all {α : Type} {l : List α} {p : α → Prop} [DecidablePred p]
    (h : (l.all fun x => decide (p x)) = true) : ∀ x ∈ l, p x := by simpa using h

/-- The checks of `State.Inv`, as one Boolean. -/
def invChecks (s : State) : Bool :=
  decide s.mem.wf && (s.cpus.all fun p => decide (p.cache.length ≤ cacheMax) && decide (p.cache.map Prod.fst).Nodup &&
    p.cache.all fun x => decide (regionOf s.cfg x.1 = .ram)) &&
  (irqLines.all fun i => !s.ic.pending.getLsbD i.val || decide (s.ic.route[i] ≠ none)) &&
  decide (s.breakpoints.Pairwise fun x y => x < y)

theorem inv_of_checks {s : State} (h : invChecks s = true) : s.Inv := by
  simp only [invChecks, Bool.and_eq_true, decide_eq_true_eq] at h
  obtain ⟨⟨⟨hm, hc⟩, hr⟩, hb⟩ := h
  refine ⟨hm, fun p hp => ?_, fun i hi => ?_, hb⟩
  · have h := List.all_eq_true.1 hc p hp
    simp only [Bool.and_eq_true, decide_eq_true_eq] at h
    exact ⟨h.1.1, h.1.2, forall_of_all h.2⟩
  · have h := List.all_eq_true.1 hr i ((by decide : ∀ j : Irq, j ∈ irqLines) i)
    simp only [hi, Bool.not_true, Bool.false_or, decide_eq_true_eq] at h
    exact h

theorem witness_inv : ran.Inv ∧ low.Inv := ⟨inv_of_checks (by decide), inv_of_checks (by decide)⟩

theorem coherent_of_checks {s : State}
    (h : (s.cpus.all fun p => p.cache.all fun x => decide (x.2 = s.mem.read x.1.toNat)) = true) : s.Coherent :=
  fun p hp => forall_of_all (List.all_eq_true.1 h p hp)

theorem witness_DecodeUndoesEncode : encodeWith [] (.jmp 0x1234#16) = some [0x09#8, 0x34#8, 0x12#8] ∧
    encodeWith [(0x00#8, none), (0x0F#8, some 0x00#8)] .nop = some [0x0F#8] := by decide

theorem witness_DecodedBytesAreTheEncoding : decode [] [0x00#8, 0xAA#8] = .ok (.nop, [0xAA#8]) ∧
    decode [] [0x24#8, 0x07#8, 0xAA#8] = .ok (.movAImm 0x07#8, [0xAA#8]) ∧
    decode [] [0x09#8, 0x34#8, 0x12#8] = .ok (.jmp 0x1234#16, []) := by decide

/-- On either side of the two ranges of ALU opcode bytes. -/
theorem witness_FlagsChangeOnlyByAluAndIret :
    ([Instr.popD, .movAImm 0x01#8, .movDD, .coreCount].all fun i =>
      !isAluKind i && i != .iret && (nextOf (exec i ran)).isSome) = true ∧
    ([Instr.incA, .notD, .addAA, .rorDImm 0x01#8].all fun i =>
      isAluKind i && i != .iret && (nextOf (exec i ran)).isSome) = true := by decide

theorem witness_StoresLeaveTheRest : ran.hasCore ran.self ∧ (∃ t, exec (.movMemReg .a 0x2000#16) ran = .next t) ∧
    (∃ t, exec (.pushReg .a) ran = .next t) ∧ ∃ t, exec (.call 0x0200#16) ran = .next t :=
  ⟨by decide, exists_next (by decide), exists_next (by decide), exists_next (by decide)⟩

theorem witness_LoadsLeaveTheRest : low.hasCore low.self ∧ (∃ t, exec (.movRegMem .a 0x2001#16) low = .next t) ∧
    (∃ t, exec (.popReg .a) low = .next t) ∧ (∃ t, exec .ret low = .next t) ∧ ∃ t, exec .iret low = .next t :=
  ⟨by decide, exists_next (by decide), exists_next (by decide), exists_next (by decide), exists_next (by decide)⟩

/-- The stack bytes of the witnesses below are RAM: the highest there are, and down to the lowest there is. -/
theorem witness_stackIsRam : ([0xFEFF#16, 0xFEFE#16, 0xFEFD#16, 0x1002#16, 0x1001#16, 0x1000#16].all fun a =>
    regionOf Config.reference a == .ram) = true ∧ ran.me.sp = 0xFEFF#16 ∧ low.me.sp = 0x1002#16 := by decide

theorem witness_ReturnUndoesCall : ran.hasCore ran.self ∧ regionOf ran.cfg ran.me.sp = .ram ∧
    regionOf ran.cfg (ran.me.sp - 1) = .ram ∧ ∃ t, exec (.call 0x0200#16) ran = .next t :=
  ⟨by decide, by decide, by decide, exists_next (by decide)⟩

theorem witness_SyscallExitsHaltsOrRefuses : (ran.hasCore ran.self ∧ ran.self.core = 0) ∧
    ((ran.focus ⟨0, 1⟩).hasCore ⟨0, 1⟩ ∧ (ran.focus ⟨0, 1⟩).self.core ≠ 0) ∧
    ((0x01#8 : Byte) ≠ 0#8 ∧ 0x01#8 ∉ ran.cfg.syscallOther) ∧
    (served.hasCore served.self ∧ (0x05#8 : Byte) ≠ 0#8 ∧ 0x05#8 ∈ served.cfg.syscallOther) := by decide

theorem witness_BreakpointRecordsThenPasses : (ran.hasCore ran.self ∧ ran.me.currentBreakpoint ≠ some ran.me.pc) ∧
    ((ran.updMe fun m => { m with currentBreakpoint := some m.pc }).hasCore ran.self ∧
      (ran.updMe fun m => { m with currentBreakpoint := some m.pc }).me.currentBreakpoint
        = some (ran.updMe fun m => { m with currentBreakpoint := some m.pc }).me.pc) := by decide

/-- A machine of two CPUs whose core 0 of CPU 0 holds this byte in A. -/
def aims (a : Byte) : State := two [] fun m => { m with a := a, c := 0x34#8, d := 0x12#8 }

/-- The last core and the last CPU there are, for CountsAndStatusAnswerInA, and for the targets of
CoreStartAndHaltSetTheTarget and CpuStartAndHaltSetTheTarget: the executing core's own unit (A = 0), and the other. -/
theorem witness_targets : (aims 0#8).hasCore (aims 0#8).self ∧ (aims 1#8).hasCore (aims 1#8).self ∧
    (aims 0#8).me.a.toNat < (aims 0#8).numCores ∧ (aims 1#8).me.a.toNat < (aims 1#8).numCores ∧
    (aims 0#8).me.a.toNat < (aims 0#8).numCpus ∧ (aims 1#8).me.a.toNat < (aims 1#8).numCpus ∧
    (⟨0, (aims 0#8).me.a.toNat⟩ : CoreId) = (aims 0#8).self ∧ (⟨0, (aims 1#8).me.a.toNat⟩ : CoreId) ≠ (aims 1#8).self := by
  decide

/-- Core 1 of CPU 0 and CPU 1 running. -/
def allRun : State := ((aims 1#8).modifyCpu 1 fun p => { p with halted := false }).modifyCore ⟨0, 1⟩ fun m =>
  { m with halted := false }

/-- A halted target, a running one, and the executing core itself, of each of the two operations. -/
theorem witness_SetPcWritesHaltedTargetsOnly :
    ((aims 1#8).me.halted = false ∧ (aims 1#8).hasCore ⟨1, 0⟩ ∧ (aims 1#8).me.a.toNat < (aims 1#8).numCores ∧
      (aims 1#8).me.a.toNat < (aims 1#8).numCpus ∧ ((aims 1#8).core ⟨0, 1⟩).halted = true ∧
      ((aims 1#8).cpu 1).halted = true) ∧
    (allRun.hasCore allRun.self ∧ allRun.me.halted = false ∧ allRun.hasCore ⟨1, 0⟩ ∧
      (allRun.core ⟨0, 1⟩).halted = false ∧ (allRun.cpu 1).halted = false) ∧
    ((aims 0#8).me.halted = false ∧ (aims 0#8).hasCore ⟨0, 0⟩ ∧ ((aims 0#8).cpu 0).halted = false) := by decide

theorem witness_StopsOnlyWhereTheSpecRefuses : ((0x01#8 : Byte) ≠ 0#8 ∧ 0x01#8 ∉ ran.cfg.syscallOther) ∧
    0x05#8 ∈ served.cfg.syscallOther ∧ (aims 2#8).numCores ≤ (aims 2#8).me.a.toNat ∧
    (aims 2#8).numCpus ≤ (aims 2#8).me.a.toNat ∧ (aims 1#8).me.a.toNat < (aims 1#8).numCores ∧
    (aims 1#8).me.a.toNat < (aims 1#8).numCpus := by decide

theorem witness_ReadsGoByRegion : 0x0FFF#16 ≤ ran.cfg.romEnd ∧
    (ran.cfg.romEnd < 0x1000#16 ∧ 0x1000#16 < ioBase ∧ (ran.cpu 0).cache.lookup 0x1000#16 = none) ∧
    (ran.cfg.romEnd < 0x2000#16 ∧ 0x2000#16 < ioBase ∧ (ran.cpu 0).cache.lookup 0x2000#16 = some 0x7E#8) ∧
    (ran.cfg.romEnd < 0xFEFF#16 ∧ 0xFEFF#16 < ioBase ∧ (ran.cpu 0).cache.lookup 0xFEFF#16 = none) ∧
    ran.cfg.romEnd < 0xFF00#16 ∧ ioBase ≤ 0xFF00#16 ∧ ioBase ≤ 0xFFFF#16 := by decide

/-- The first and last port of the interrupt controller, of a host device, and of an empty slot: for the I/O clauses of
ReadsGoByRegion and ControllerPortsReadAndWrite. -/
theorem witness_slots :
    let cfg := { Config.reference with hostDevices := [15] }
    cfg.romEnd < 0xFF40#16 ∧
    ([0xFF40#16, 0xFF4F#16].all fun a => decide ((a.toNat - 0xFF00) / 16 = cfg.icSlot ∧ ioBase ≤ a)) = true ∧
    ([0xFFF0#16, 0xFFFF#16].all fun a => decide ((a.toNat - 0xFF00) / 16 ≠ cfg.icSlot ∧
      (a.toNat - 0xFF00) / 16 ∈ cfg.hostDevices ∧ ioBase ≤ a)) = true ∧
    ([0xFF00#16, 0xFF0F#16].all fun a => decide ((a.toNat - 0xFF00) / 16 ≠ cfg.icSlot ∧
      (a.toNat - 0xFF00) / 16 ∉ cfg.hostDevices ∧ ioBase ≤ a)) = true := by decide

theorem witness_RomWriteIsDroppedWithWarning : 0x0000#16 ≤ ran.cfg.romEnd ∧ 0x0FFF#16 ≤ ran.cfg.romEnd := by decide

theorem witness_RamWriteIsReadBack : 0 < ran.numCpus ∧ regionOf ran.cfg 0x1000#16 = .ram ∧
    regionOf ran.cfg 0x2000#16 = .ram ∧ regionOf ran.cfg 0xFEFF#16 = .ram ∧ ran.cfg.invalidateScope = .ownCpu ∧
    { ran.cfg with invalidateScope := .allCpus }.invalidateScope = .allCpus := by decide

/-- The invariant holds under the other scope too: for RamWriteIsReadBack. -/
theorem witness_inv_allCpus : { ran with cfg := { Config.reference with invalidateScope := .allCpus } }.Inv :=
  inv_of_checks (by decide)

theorem witness_IoAddressesAreSlotsAndPorts : Config.reference.romEnd < ioBase ∧ 0 < 16 ∧ 15 < 16 := by decide

theorem witness_CacheIsFirstInFirstOut : fullCache.length = 128 ∧ fullCache.tail.length < 128 := by simp [fullCache]

/-- CPU 1 holds a byte, every cache is invalidated; and the one-CPU machine. -/
theorem witness_CachesStayCoherent :
    let s : State := { withCache (two [(0x4000, 0x11#8)] id) 1 [(0x4000#16, 0x11#8)] with
      cfg := { Config.reference with invalidateScope := .allCpus } }
    (s.invalidatesAll ∧ s.Coherent ∧ ∃ t, step s = .next t) ∧ (ran.invalidatesAll ∧ ran.Coherent) ∧
      regionOf ran.cfg 0x1000#16 = .ram ∧ regionOf ran.cfg 0xFEFF#16 = .ram := by
  simp only [State.invalidatesAll]
  exact ⟨⟨by decide, coherent_of_checks (by decide), exists_next (by decide)⟩,
    ⟨by decide, coherent_of_checks (by decide)⟩, by decide, by decide⟩

theorem witness_MapAndRomNeverChange : (∃ t, step ran = .next t) ∧ (∃ t, step low = .next t) ∧
    0x0FFF#16 ≤ ran.cfg.romEnd := ⟨exists_next (by decide), exists_next (by decide), by decide⟩

theorem witness_ControllerPortsReadAndWrite : 8 ≤ 8 ∧ 8 ≤ 15 := by decide

/-- The same machine under the other layout of ports 6 and 7. -/
def otherLayout (ic : IcState) : State :=
  { withIc ran ic with cfg := { Config.reference with routePorts := .selectThenNibbles } }

theorem witness_RoutingWritesOneIndex :
    (ran.cfg.routePorts = .irqNibblePerPort ∧ 8 ≤ (0x80#8 : Byte).toNat / 16 ∧
      (0x7F#8 : Byte).toNat / 16 = (7 : Irq).val ∧ ran.ic.route[(7 : Irq)] = none ∧
      (0x01#8 : Byte).toNat / 16 = (0 : Irq).val ∧ ran.ic.route[(0 : Irq)] = some { cpu := 0#4, core := 0#4 }) ∧
    ((otherLayout (icReady 0#16)).cfg.routePorts = .selectThenNibbles ∧
      (otherLayout (icReady 0#16)).ic.routeSelect.toNat = (0 : Irq).val ∧
      (otherLayout (icReady 0#16)).ic.route[(0 : Irq)] ≠ none ∧
      (otherLayout { icReady 0#16 with routeSelect := 7#3 }).ic.routeSelect.toNat = (7 : Irq).val ∧
      (otherLayout { icReady 0#16 with routeSelect := 7#3 }).ic.route[(7 : Irq)] = none) := by decide

theorem witness_RequestSetsPendingAndRoute : 8 ≤ 8 ∧ 7 = (7 : Irq).val ∧ ran.ic.route[(7 : Irq)] = none ∧
    ran.ic.route[(0 : Irq)] ≠ none := by decide

theorem witness_SelectsTheLowestIrq : ran.cfg.irqSelect = .filterThenLowest ∧ lowest.cfg.irqSelect = .lowestThenRoute := by
  decide

theorem witness_OnlyTheHostSetsPending :
    ∃ t, cpuCycle 0 false (withIc low { icReady 0x0020#16 with mask := 0x01#8 }) = .next t ∧
      t.ic.pending.getLsbD (0 : Irq).val = true := exists_after (by decide)

theorem witness_InterruptEntrySavesContext : ran.hasCore ran.self ∧ ran.ic.handlerAddr ≠ 0#16 ∧
    regionOf ran.cfg ran.me.sp = .ram ∧ regionOf ran.cfg (ran.me.sp - 1) = .ram ∧
    regionOf ran.cfg (ran.me.sp - 2) = .ram := by decide

theorem witness_ZeroHandlerIsFatal : low.hasCore low.self ∧ low.ic.handlerAddr = 0#16 ∧
    regionOf low.cfg low.me.sp = .ram ∧ regionOf low.cfg (low.me.sp - 1) = .ram ∧
    regionOf low.cfg (low.me.sp - 2) = .ram := by decide

theorem witness_InterruptReturnUndoesEntry : ran.hasCore ran.self ∧ ran.me.ie = true ∧ ran.me.inHandler = false ∧
    regionOf ran.cfg ran.me.sp = .ram ∧ regionOf ran.cfg (ran.me.sp - 1) = .ram ∧
    regionOf ran.cfg (ran.me.sp - 2) = .ram ∧ ∃ t, interruptEntry 0 ran = .next t :=
  ⟨by decide, by decide, by decide, by decide, by decide, by decide, exists_next (by decide)⟩

/-- A halted core; a core at an unrecorded global breakpoint; a core that takes an interrupt; a core that takes none, one
for each of the three reasons; and a core at a breakpoint that a pause lets pass. -/
theorem witness_CoreCycleChecksInOrder : (ran.core ⟨0, 1⟩).halted = true ∧
    (let s := busy 0xFEFF#16 0x0300#16 (icReady 0x0020#16)
     (s.core ⟨0, 0⟩).halted = false ∧ (s.core ⟨0, 0⟩).pc ∈ s.breakpoints ∧
      (s.core ⟨0, 0⟩).currentBreakpoint ≠ some (s.core ⟨0, 0⟩).pc ∧ (s.cpu 0).paused = false ∧ s.hasCore ⟨0, 0⟩) ∧
    ((ran.core ⟨0, 0⟩).halted = false ∧ (ran.core ⟨0, 0⟩).pc ∉ ran.breakpoints ∧ (ran.core ⟨0, 0⟩).ie = true ∧
      (ran.core ⟨0, 0⟩).inHandler = false ∧ ran.selectIrq ⟨0, 0⟩ = some 0) ∧
    ((low.core ⟨0, 0⟩).halted = false ∧ (low.core ⟨0, 0⟩).pc ∉ low.breakpoints ∧ low.selectIrq ⟨0, 0⟩ = none) ∧
    (let s := ran.modifyCore ⟨0, 0⟩ fun m => { m with ie := false }
     (s.core ⟨0, 0⟩).halted = false ∧ (s.core ⟨0, 0⟩).pc ∉ s.breakpoints ∧ (s.core ⟨0, 0⟩).ie = false) ∧
    (let s := ran.modifyCore ⟨0, 0⟩ fun m => { m with inHandler := true }
     (s.core ⟨0, 0⟩).halted = false ∧ (s.core ⟨0, 0⟩).pc ∉ s.breakpoints ∧ (s.core ⟨0, 0⟩).inHandler = true) ∧
    (let s := (busy 0xFEFF#16 0x0300#16 IcState.atReset).modifyCpu 0 fun p => { p with paused := true }
     (s.core ⟨0, 0⟩).halted = false ∧ (s.core ⟨0, 0⟩).pc ∈ s.breakpoints ∧ (s.cpu 0).paused = true ∧
      (s.core ⟨0, 0⟩).currentBreakpoint ≠ some (s.core ⟨0, 0⟩).pc ∧ s.selectIrq ⟨0, 0⟩ = none) := by decide

theorem witness_RecordedBreakpointIsPassed :
    let s := (busy 0xFEFF#16 0x0300#16 IcState.atReset).modifyCore ⟨0, 0⟩ fun m => { m with currentBreakpoint := some m.pc }
    s.hasCore ⟨0, 0⟩ ∧ (s.core ⟨0, 0⟩).halted = false ∧ (s.core ⟨0, 0⟩).pc ∈ s.breakpoints ∧
      (s.core ⟨0, 0⟩).currentBreakpoint = some (s.core ⟨0, 0⟩).pc := by decide

/-- Unassigned bytes at the ends of their ranges. -/
theorem witness_UnknownOpcodeHaltsTheCore : ([0x0F#8, 0xDC#8, 0xDF#8, 0xEA#8, 0xFF#8].all fun b =>
    let s := one [(0x0100, b)] fun m => { m with pc := 0x0100#16 }
    decide (s.hasCore ⟨0, 0⟩) && !(s.core ⟨0, 0⟩).halted && !decide ((s.core ⟨0, 0⟩).pc ∈ s.breakpoints) &&
      (s.focus ⟨0, 0⟩).takes == none && ((s.focus ⟨0, 0⟩).memRead (s.core ⟨0, 0⟩).pc).1 == b &&
      decode s.cfg.opcodeMap [b, 0#8, 0#8] == .error (.unknownOpcode b)) = true := by decide

/-- Programs of one, two and three bytes. -/
def stepWitness (image : Memory) (n : Nat) (i : Instr) : Bool :=
  let s := one image fun m => { m with pc := 0x2000#16 }
  let u := s.nextAction.2.focus ⟨0, 0⟩
  let operands := u.fetchOpcode.memReadBytes n ((s.core ⟨0, 0⟩).pc + 1)
  s.nextAction.1 == .tick 0 && decide (s.hasCore ⟨0, 0⟩) && !(s.cpu 0).halted && !(s.cpu 0).paused &&
    !(s.core ⟨0, 0⟩).halted && !decide ((s.core ⟨0, 0⟩).pc ∈ s.breakpoints) && u.takes == none &&
    decode s.cfg.opcodeMap (u.fetchOpcode.me.ir :: operands.1) == .ok (i, [])

theorem witness_StepRunsTheDecodedInstruction : stepWitness [(0x2000, 0x46#8)] 0 .addBC = true ∧
    stepWitness [(0x2000, 0x24#8), (0x2001, 0x05#8)] 1 (.movAImm 0x05#8) = true ∧
    stepWitness [(0x2000, 0x09#8), (0x2001, 0x34#8), (0x2002, 0x12#8)] 2 (.jmp 0x1234#16) = true := by decide

/-- The last three bytes below the I/O window. -/
theorem witness_FetchReadsTheStoredProgram :
    let s := one [(0xFEFD, 0x09#8), (0xFEFE, 0x34#8), (0xFEFF, 0x12#8)] fun m => { m with pc := 0xFEFD#16 }
    s.Coherent ∧ s.hasCore s.self ∧ (∀ k : Nat, k < 3 → isStorage s.cfg (s.me.pc + BitVec.ofNat 16 k)) ∧
      decode s.cfg.opcodeMap [s.mem.read (s.me.pc + 0#16).toNat, s.mem.read (s.me.pc + 1#16).toNat,
        s.mem.read (s.me.pc + 2#16).toNat] = .ok (.jmp 0x1234#16, []) := by
  refine ⟨coherent_of_checks (by decide), by decide, ?_, by decide⟩
  simp only [isStorage]
  decide

theorem witness_HostActionsTakeEffect : ([HostAction.tick 0, .debugStep 0, .pause 0, .resume 0,
    .setBreakpoints [0x0200#16, 0x0100#16], .requestInterrupt 8].all fun x =>
      { ran with host := x :: [.tick 0] }.host == x :: [.tick 0]) = true := by decide

/-- CORE_SET_PC aimed at the halted core 1: another core's PC does change. -/
theorem witness_RegisterFilesArePrivate :
    let s := one [(0x0000, 0xE4#8)] fun m => { m with a := 1#8, c := 0x30#8 }
    (⟨0, 1⟩ : CoreId) ≠ ⟨0, 0⟩ ∧ ∃ t, coreCycle ⟨0, 0⟩ s = .next t ∧
      decide ((t.core ⟨0, 1⟩).pc ≠ (s.core ⟨0, 1⟩).pc) = true :=
  ⟨by decide, exists_after (by decide)⟩

/-- A core-cycle that fetches, an interrupt entry, a breakpoint stop and a halted core-cycle. -/
theorem witness_CycleCountCountsFetches :
    (low.hasCore ⟨0, 0⟩ ∧ ∃ t, coreCycle ⟨0, 0⟩ low = .next t) ∧
    (ran.hasCore ⟨0, 0⟩ ∧ (ran.focus ⟨0, 0⟩).takes ≠ none ∧ ∃ t, coreCycle ⟨0, 0⟩ ran = .next t) ∧
    (((busy 0xFEFF#16 0x0300#16 IcState.atReset).focus ⟨0, 0⟩).stopsHere = true ∧
      ∃ t, coreCycle ⟨0, 0⟩ (busy 0xFEFF#16 0x0300#16 IcState.atReset) = .next t) ∧
    (ran.hasCore ⟨0, 1⟩ ∧ (ran.core ⟨0, 1⟩).halted = true ∧ ∃ t, coreCycle ⟨0, 1⟩ ran = .next t) :=
  ⟨⟨by decide, exists_next (by decide)⟩, ⟨by decide, by decide, exists_next (by decide)⟩,
    ⟨by decide, exists_next (by decide)⟩, by decide, by decide, exists_next (by decide)⟩

/-- CPU 0 with both its cores halted beside the halted CPU 1. -/
theorem witness_EndedRunStaysEnded :
    let s := two [] fun m => { m with halted := true }
    s.Ended ∧ s.nextAction.1 = .tick 0 ∧ { s with host := [.debugStep 1] }.nextAction.1 = .debugStep 1 := by
  simp only [State.Ended]
  decide

theorem witness_StepKeepsTheInvariant : (ran.Inv ∧ ∃ t, step ran = .next t) ∧ (low.Inv ∧ ∃ t, step low = .next t) :=
  ⟨⟨witness_inv.1, exists_next (by decide)⟩, witness_inv.2, exists_next (by decide)⟩

/-- The last core of the last CPU. -/
theorem witness_LaunchGivesTheResetValues :
    let p : CpuShape := { halted := true, coresHalted := [false, true] }
    [{ halted := false, coresHalted := [false] }, p][1]? = some p ∧ p.coresHalted[1]? = some true ∧
      shapeWf [{ halted := false, coresHalted := [false] }, p] = true := by decide

end Sys2Proof.Tests
end

section
/-! SUPPORT. The invariant of the machine, part by part: the caches, the routes of the pending IRQs, the breakpoint set.
Each part has one lemma per operation that touches it; `Inv.of_move` puts them together, one case per elementary
move. -/

namespace Sys2Proof.Machine

open Sys2Proof

/-! ## Caches -/

/-- Every cache is as R47 says: the part of the invariant that speaks of the CPUs. -/
def State.CachesWf (s : State) : Prop := ∀ p ∈ s.cpus, p.cache.wf s.cfg

/-- Changing CPU `c` keeps every cache well-formed, if it does so for the cache of CPU `c`. -/
theorem State.CachesWf.modifyCpu {s : State} (h : s.CachesWf) (c : Nat) (f : CpuState → CpuState)
    (hf : (s.cpu c).cache.wf s.cfg → (f (s.cpu c)).cache.wf s.cfg) : (s.modifyCpu c f).CachesWf := by
  intro p hp
  obtain ⟨i, hi⟩ := List.mem_iff_getElem?.mp hp
  simp only [State.modifyCpu, List.getElem?_modify] at hi
  obtain ⟨q, hq, rfl⟩ := Option.map_eq_some_iff.mp hi
  have hw : q.cache.wf s.cfg := h q (List.mem_of_getElem? hq)
  by_cases hc : c = i
  · have hcpu : s.cpu c = q := by simp [State.cpu, hc, hq]
    simpa [hc, ← hcpu] using hf (hcpu ▸ hw)
  · simpa [hc] using hw

theorem State.CachesWf.modifyCpu_of_cache_eq {s : State} (h : s.CachesWf) (c : Nat) {f : CpuState → CpuState}
    (hf : ∀ p, (f p).cache = p.cache) : (s.modifyCpu c f).CachesWf :=
  h.modifyCpu c f fun hw => by rwa [hf]

/-- Changing a core leaves the caches alone. -/
theorem State.CachesWf.modifyCore {s : State} (h : s.CachesWf) (id : CoreId) (f : CoreState → CoreState) :
    (s.modifyCore id f).CachesWf :=
  h.modifyCpu_of_cache_eq id.cpu fun _ => rfl

/-- A read that misses in RAM inserts an address the cache does not hold; every other read leaves the caches (R105). -/
theorem State.CachesWf.busRead {s : State} (h : s.CachesWf) (c : Nat) (a : Word) : (s.busRead c a).2.CachesWf := by
  unfold State.busRead
  split
  case h_1 => exact h
  case h_2 =>
    unfold State.slotRead
    split
    · exact h
    · split <;> exact h
  case h_3 hram =>
    unfold State.ramRead
    split
    · exact h
    · next hmiss =>
      generalize s.mem.read a.toNat = v
      refine h.modifyCpu c _ fun hw => ?_
      dsimp only
      exact Cache.wf_insert _ _ a v hw hmiss hram

/-- Invalidating an address keeps every cache well-formed, under either scope (R110). -/
theorem State.CachesWf.invalidate {s : State} (h : s.CachesWf) (c : Nat) (a : Word) : (s.invalidate c a).CachesWf := by
  unfold State.invalidate
  split
  · exact h.modifyCpu c _ (Cache.wf_invalidate _ _ a)
  · intro p hp
    obtain ⟨q, hq, rfl⟩ := List.mem_map.mp hp
    exact Cache.wf_invalidate _ _ a (h q hq)

/-- A write to RAM invalidates; no other write reaches a cache (R106, R110). -/
theorem State.CachesWf.busWrite {s : State} (h : s.CachesWf) (c : Nat) (a : Word) (v : Byte) :
    (s.busWrite c a v).CachesWf := by
  unfold State.busWrite
  split
  · exact h
  · unfold State.slotWrite
    split
    · obtain ⟨ic, events, hs⟩ := s.writeIcPort_shape _ v
      rw [hs]; exact h
    · split <;> exact h
  · exact State.CachesWf.invalidate (s := { s with mem := s.mem.write a.toNat v }) h c a

theorem State.cachesWf_clearCaches (s : State) : s.clearCaches.CachesWf := by
  intro p hp
  obtain ⟨q, _, rfl⟩ := List.mem_map.mp hp
  exact Cache.wf_nil s.cfg

/-! ## Routes of the pending IRQs -/

/-- Clearing a pending bit asks for no new route (R476). -/
theorem IcState.routed.acknowledge {ic : IcState} (h : ic.routed) (i : Irq) : (ic.acknowledge i).routed := by
  intro j hj
  rw [IcState.acknowledge_pending, Bool.and_eq_true] at hj
  exact h j hj.2

/-- The bit of IRQ `i` is set at `i` alone. -/
theorem getLsbD_irqBit (i j : Irq) : (irqBit i).getLsbD j.val = decide (i = j) := by
  have hi := i.isLt
  have hj := j.isLt
  simp only [irqBit, BitVec.getLsbD_shiftLeft, BitVec.getLsbD_one, Fin.ext_iff]
  grind

/-- The route of one IRQ after another one's was assigned. -/
theorem IcState.setRoute_route (ic : IcState) (i j : Irq) (r : Route) :
    (ic.setRoute i r).route[j] = if i = j then some r else ic.route[j] := by
  simp only [IcState.setRoute, Fin.getElem_fin, Vector.getElem_set, Fin.val_inj]

/-- Assigning a route takes none away. -/
theorem IcState.routed.setRoute {ic : IcState} (h : ic.routed) (i : Irq) (r : Route) : (ic.setRoute i r).routed := by
  intro j hj
  rw [IcState.setRoute_route]
  split
  · exact Option.some_ne_none r
  · exact h j hj

/-- The routing ports assign a route, or log, or write the select register (R473). -/
theorem State.routed_writeRoute {s : State} (h : s.ic.routed) (port : Nat) (v : Byte) :
    (s.writeRoute port v).ic.routed := by
  unfold State.writeRoute
  split
  · unfold State.routeByNibble
    dsimp only
    split
    · split
      · exact h
      · split <;> exact h.setRoute _ _
    · exact h
  · unfold State.routeBySelect
    split
    · exact h
    · split
      · exact h
      · exact h.setRoute _ _

/-- A port write sets no pending bit and takes no route away (R467-R474). -/
theorem State.routed_writeIcPort {s : State} (h : s.ic.routed) (port : Nat) (v : Byte) :
    (s.writeIcPort port v).ic.routed := by
  unfold State.writeIcPort
  split
  case h_2 => exact h.acknowledge _
  case h_6 | h_7 => exact State.routed_writeRoute h _ v
  all_goals exact h

theorem State.routed_busWrite {s : State} (h : s.ic.routed) (c : Nat) (a : Word) (v : Byte) :
    (s.busWrite c a v).ic.routed := by
  cases hr : regionOf s.cfg a with
  | rom => rw [State.busWrite_rom _ _ _ _ hr]; exact h
  | io slot port =>
    rw [State.busWrite_io _ _ _ _ _ _ hr, State.slotWrite]
    split
    · exact State.routed_writeIcPort h port v
    · split <;> exact h
  | ram =>
    rw [State.busWrite_ram _ _ _ _ hr, State.invalidate]
    split <;> exact h

/-- A request gives the IRQ it makes pending a route, if it has none (R475). -/
theorem State.routed_requestInterrupt {s : State} (h : s.ic.routed) (n : Nat) : (s.requestInterrupt n).ic.routed := by
  by_cases hn : n < 8
  · obtain ⟨i, rfl⟩ : ∃ i : Irq, i.val = n := ⟨⟨n, hn⟩, rfl⟩
    rw [State.requestInterrupt_lt]
    intro j hj
    simp only [Fin.getElem_fin, Vector.getElem_set, Fin.val_inj]
    split
    · exact Option.some_ne_none _
    · next hij =>
      refine h j ?_
      rwa [BitVec.getLsbD_or, getLsbD_irqBit, decide_eq_false hij, Bool.or_false] at hj
  · rw [State.requestInterrupt_ge s n (Nat.le_of_not_lt hn)]
    exact h

/-! ## The breakpoint set -/

/-- Adding an address to a set adds that address and no other (R48). -/
theorem mem_addAddress (a x : Word) (l : List Word) : x ∈ addAddress a l ↔ x = a ∨ x ∈ l := by
  induction l with
  | nil => simp [addAddress]
  | cons b l ih =>
    rw [addAddress]
    split
    · simp
    · split
      · next hab => simp [hab]
      · simp only [List.mem_cons, ih]; tauto

/-- Adding an address keeps a set strictly rising. -/
theorem pairwise_addAddress (a : Word) (l : List Word) (h : l.Pairwise fun x y => x < y) :
    (addAddress a l).Pairwise fun x y => x < y := by
  induction l with
  | nil => exact List.pairwise_singleton ..
  | cons b l ih =>
    obtain ⟨hb, hl⟩ := List.pairwise_cons.mp h
    rw [addAddress]
    split
    · next hab =>
      refine List.pairwise_cons.mpr ⟨fun y hy => ?_, h⟩
      rcases List.mem_cons.mp hy with rfl | hy
      · exact hab
      · exact BitVec.lt_trans hab (hb y hy)
    · split
      · exact h
      · next hlt hne =>
        refine List.pairwise_cons.mpr ⟨fun y hy => ?_, ih hl⟩
        rcases (mem_addAddress a y l).mp hy with rfl | hy
        · bv_omega
        · exact hb y hy

/-- The canonical form of any list of addresses is strictly rising. -/
theorem pairwise_addressSet (l : List Word) : (addressSet l).Pairwise fun x y => x < y := by
  induction l with
  | nil => exact List.Pairwise.nil
  | cons a l ih => exact pairwise_addAddress a (addressSet l) ih

/-! ## The invariant -/

/-- Every elementary move keeps the invariant. -/
theorem State.Inv.of_move {s t : State} (h : Move s t) (hs : s.Inv) : t.Inv := by
  obtain ⟨hmem, hcache, hic, hbreak⟩ := hs
  replace hcache : s.CachesWf := hcache
  cases h with
  | me f => exact ⟨hmem, hcache.modifyCore s.self f, hic, hbreak⟩
  | read a =>
    refine ⟨?_, hcache.busRead s.self.cpu a, ?_, ?_⟩
    · rwa [State.memRead_mem]
    · rwa [State.memRead_ic]
    · rwa [State.memRead_breakpoints]
  | write a v =>
    refine ⟨s.busWrite_wf s.self.cpu a v hmem, hcache.busWrite s.self.cpu a v,
      State.routed_busWrite hic s.self.cpu a v, ?_⟩
    rwa [State.memWrite_breakpoints]
  | core id f => exact ⟨hmem, hcache.modifyCore id f, hic, hbreak⟩
  | cpu c f hf => exact ⟨hmem, hcache.modifyCpu_of_cache_eq c fun p => (hf p).1, hic, hbreak⟩
  | acknowledge i => exact ⟨hmem, hcache, hic.acknowledge i, hbreak⟩
  | clear => exact ⟨s.clearProgram_wf hmem, s.clearProgram.cachesWf_clearCaches, hic, hbreak⟩
  | log e => exact ⟨hmem, hcache, hic, hbreak⟩
  | focus id => exact ⟨hmem, hcache, hic, hbreak⟩
  | draw => exact ⟨hmem, hcache, hic, hbreak⟩

/-- Taking the next action off the script touches nothing the invariant speaks of. -/
theorem State.Inv.nextAction {s : State} (hs : s.Inv) : s.nextAction.2.Inv := by
  unfold State.nextAction
  split <;> exact hs

theorem State.Inv.setPaused {s : State} (hs : s.Inv) (c : Nat) (b : Bool) :
    (s.modifyCpu c fun p => { p with paused := b }).Inv := by
  obtain ⟨hmem, hcache, hic, hbreak⟩ := hs
  exact ⟨hmem, State.CachesWf.modifyCpu_of_cache_eq hcache c fun _ => rfl, hic, hbreak⟩

theorem State.Inv.setBreakpoints {s : State} (hs : s.Inv) (l : List Word) :
    State.Inv { s with breakpoints := addressSet l } := by
  obtain ⟨hmem, hcache, hic, -⟩ := hs
  exact ⟨hmem, hcache, hic, pairwise_addressSet l⟩

/-- A request touches the controller and the events only (R475). -/
theorem State.Inv.requestInterrupt {s : State} (hs : s.Inv) (n : Nat) : (s.requestInterrupt n).Inv := by
  obtain ⟨hmem, hcache, hic, hbreak⟩ := hs
  obtain ⟨ic, events, ht⟩ : ∃ ic events, s.requestInterrupt n = { s with ic := ic, events := events } := by
    unfold State.requestInterrupt
    dsimp only
    split
    · split <;> exact ⟨_, s.events, rfl⟩
    · exact ⟨s.ic, _, rfl⟩
  have hroute := State.routed_requestInterrupt hic n
  rw [ht] at hroute ⊢
  exact ⟨hmem, hcache, hroute, hbreak⟩

/-- Settles O58: every move of a core-cycle keeps the invariant, and so does every host action that runs no core. -/
theorem stepKeepsTheInvariant : Obligations.StepKeepsTheInvariant := fun s t hs h =>
  step_keeps (fun _ _ hm hi => hi.of_move hm) (fun _ hi => hi.nextAction) (fun _ c b hi => hi.setPaused c b)
    (fun _ l hi => hi.setBreakpoints l) (fun _ n hi => hi.requestInterrupt n) s t h hs

end Sys2Proof.Machine
end

section
/-! SUPPORT. Said once, for a core-cycle and its parts: what they leave of FLAGS, of the other cores, and of the CPUs'
`halted` flags. `OwnEffect` is a stretch of work on the executing core alone; `TargetEffect` is what a multi-core
operation does to the unit it addresses. Every instruction is one of each, one after the other (`exec_effect`). -/

namespace Sys2Proof.Machine

open Sys2Proof

/-! ## Work on the executing core alone -/

/-- Work on the executing core alone: no other core and no CPU's `halted` flag changes, and FLAGS change by `K`. -/
structure OwnEffect (K : Byte → Byte → Prop) (s t : State) : Prop where
  /-- The same core executes. -/
  self : t.self = s.self
  /-- What becomes of its FLAGS. -/
  flags : K s.me.flags t.me.flags
  /-- Every other core is as before. -/
  others : ∀ id, id ≠ s.self → t.core id = s.core id
  /-- Every CPU's own run state is as before. -/
  cpus : ∀ c, (t.cpu c).halted = (s.cpu c).halted

/-- Work that keeps FLAGS, as all work but that of the ALU and of IRET does (R35, D8). -/
abbrev KeepsFlags : State → State → Prop := OwnEffect Eq

/-- A change of the executing core (which changes nothing if that core does not exist). -/
theorem OwnEffect.updMe {K : Byte → Byte → Prop} (hK : ∀ x, K x x) (s : State) {f : CoreState → CoreState}
    (hf : ∀ m, K m.flags (f m).flags) : OwnEffect K s (s.updMe f) where
  self := rfl
  flags := by
    by_cases h : s.hasCore s.self
    · rw [s.me_updMe f h]; exact hf s.me
    · have hme : (s.updMe f).me = s.me := (s.core_modifyCore s.self s.self f).trans (if_neg fun hc => h hc.2)
      rw [hme]; exact hK _
  others id hid := s.core_updMe_ne id f hid
  cpus c := s.cpu_updMe_halted c f

theorem KeepsFlags.refl (s : State) : KeepsFlags s s := ⟨rfl, rfl, fun _ _ => rfl, fun _ => rfl⟩

/-! The lemmas below go on from work that keeps FLAGS, so that an operation is a chain of them. -/

section
variable {s t u : State}

/-- Other work, by any rule for FLAGS. -/
theorem KeepsFlags.andThen {K : Byte → Byte → Prop} (h : KeepsFlags s t) (k : OwnEffect K t u) :
    OwnEffect K s u where
  self := k.self.trans h.self
  flags := h.flags ▸ k.flags
  others id hid := (k.others id (h.self ▸ hid)).trans (h.others id hid)
  cpus c := (k.cpus c).trans (h.cpus c)

/-- What keeps the CPUs but for their caches, as every bus access does, reaches no core. -/
theorem KeepsFlags.ofBare (h : KeepsFlags s t) (hb : u.bare = t.bare) (hs : u.self = t.self) : KeepsFlags s u :=
  h.andThen
    { self := hs
      flags := by rw [State.me, State.me, hs, State.core_bare hb]
      others := fun id _ => State.core_bare hb id
      cpus := State.cpu_halted_bare hb }

/-- A change of the executing core that keeps its FLAGS. -/
theorem KeepsFlags.updMe (h : KeepsFlags s t) {f : CoreState → CoreState} (hf : ∀ m, (f m).flags = m.flags) :
    KeepsFlags s (t.updMe f) :=
  h.andThen (.updMe (fun _ => rfl) t fun m => (hf m).symm)

theorem KeepsFlags.advance (h : KeepsFlags s t) (n : Nat) : KeepsFlags s (t.updMe fun m => m.advance n) :=
  h.updMe fun _ => rfl

theorem KeepsFlags.memRead (h : KeepsFlags s t) (a : Word) : KeepsFlags s (t.memRead a).2 :=
  h.ofBare (t.busRead_bare ..) (t.memRead_self a)

theorem KeepsFlags.memWrite (h : KeepsFlags s t) (a : Word) (v : Byte) : KeepsFlags s (t.memWrite a v) :=
  h.ofBare (t.busWrite_bare ..) (t.memWrite_self a v)

theorem KeepsFlags.push8 (h : KeepsFlags s t) (v : Byte) : KeepsFlags s (t.push8 v) :=
  (h.memWrite _ v).updMe fun _ => rfl

theorem KeepsFlags.pop8 (h : KeepsFlags s t) : KeepsFlags s t.pop8.2 :=
  have hsp : KeepsFlags s t.incSp := h.updMe fun _ => rfl
  hsp.memRead _

theorem KeepsFlags.memReadBytes (h : KeepsFlags s t) (n : Nat) (a : Word) : KeepsFlags s (t.memReadBytes n a).2 := by
  induction n generalizing t a with
  | zero => exact h
  | succ n ih => exact ih (h.memRead a) (a + 1)

/-- The clear of SYSCALL 0 reaches storage and caches (R382). -/
theorem KeepsFlags.clear (h : KeepsFlags s t) : KeepsFlags s t.clearProgram.clearCaches :=
  h.ofBare (t.clearProgram.bare_map _ fun p => p.bare_cache []) rfl

/-- A service reaches the bus, then the general registers and PC of the executing core (R382, D17). -/
theorem KeepsFlags.serve (h : KeepsFlags s t) (x : Service) : KeepsFlags s (t.serve x) := by
  obtain ⟨hbare, -, -, hself, -, -⟩ := t.drawn.access_kept x.accesses
  exact (h.ofBare hbare hself).updMe fun _ => rfl

/-- Pausing a CPU leaves its `halted` flag and its cores. -/
theorem KeepsFlags.pause (h : KeepsFlags s t) (c : Nat) :
    KeepsFlags s (t.modifyCpu c fun p => { p with paused := true }) :=
  have hcore (id : CoreId) := t.core_modifyCpu c id (fun p => { p with paused := true }) fun _ => rfl
  h.andThen
    { self := rfl
      flags := congrArg CoreState.flags (hcore t.self).symm
      others := fun id _ => hcore id
      cpus := fun d => t.cpu_modifyCpu_proj c d _ CpuState.halted fun _ => rfl }

theorem KeepsFlags.recordBreakpoint (h : KeepsFlags s t) : KeepsFlags s t.recordBreakpoint :=
  have hrecord := h.updMe (f := fun m => { m with currentBreakpoint := some m.pc }) fun _ => rfl
  hrecord.pause _

/-- PC + 1, unless the operation targets the executing core's own unit (R421). -/
theorem KeepsFlags.advanceUnless (h : KeepsFlags s t) (own : Prop) [Decidable own] :
    KeepsFlags s (t.advanceUnless own) := by
  unfold State.advanceUnless
  split
  · exact h
  · exact h.advance 1

/-! ## The parts of a core-cycle but the instruction -/

/-- An interrupt entry pushes FLAGS and leaves them (R481). -/
theorem KeepsFlags.interruptEntry {i : Irq} (h : interruptEntry i s = .next t) : KeepsFlags s t := by
  have hmasked := (KeepsFlags.refl s).updMe (f := fun m => { m with ie := false, inHandler := true }) fun _ => rfl
  have hpushed := ((hmasked.memWrite s.me.sp s.me.flags).memWrite (s.me.sp - 1) (hiByte s.me.pc)).memWrite
    (s.me.sp - 2) (loByte s.me.pc)
  have henter : KeepsFlags s (s.enterInterrupt i) :=
    (hpushed.updMe (f := fun m => { m with sp := s.me.sp - 3 }) fun _ => rfl).ofBare rfl rfl
  simp only [Machine.interruptEntry] at h
  split at h
  · cases h
  · injection h with h; subst h
    exact henter.updMe fun _ => rfl

theorem KeepsFlags.fetch (s : State) : KeepsFlags s s.fetch.2 :=
  have hcounted := (KeepsFlags.refl s).updMe (f := fun m => { m with cycleCount := m.cycleCount + 1 }) fun _ => rfl
  have hopcode : KeepsFlags s s.fetchOpcode := (hcounted.memRead _).updMe fun _ => rfl
  hopcode.memReadBytes _ _

theorem KeepsFlags.unknownOpcode (h : KeepsFlags s t) : KeepsFlags s t.unknownOpcode :=
  have hhalt := h.updMe (f := fun m => ({ m with halted := true } : CoreState).advance 1) fun _ => rfl
  hhalt.ofBare rfl rfl

theorem KeepsFlags.passBreakpoint (s : State) : KeepsFlags s s.passBreakpoint := by
  unfold State.passBreakpoint
  split
  · exact (KeepsFlags.refl s).updMe fun _ => rfl
  · exact .refl s

end

/-! ## The multi-core operations -/

/-- What a multi-core operation does to the unit it addresses (R424-R426, R429-R431), or nothing. -/
inductive TargetEffect (s : State) : State → Prop where
  /-- No unit is addressed, or its PC is not written because it runs (D22). -/
  | none : TargetEffect s s
  /-- A core is started or halted. -/
  | core (id : CoreId) (b : Bool) : TargetEffect s (s.modifyCore id fun m => m.setHalted b)
  /-- A CPU is started or halted. -/
  | cpu (c : Nat) (b : Bool) : TargetEffect s (s.modifyCpu c fun p => p.setHalted b)
  /-- The PC of a halted core, or of a core of a halted CPU, is written. -/
  | pc (id : CoreId) (w : Word) (h : (s.core id).halted = true ∨ (s.cpu id.cpu).halted = true) :
    TargetEffect s (s.modifyCore id fun m => m.jump w)

theorem TargetEffect.self_eq {s t : State} (h : TargetEffect s t) : t.self = s.self := by
  cases h <;> rfl

/-- A register that a change of some core keeps is kept for every core. -/
theorem State.core_modifyCore_proj {α : Type} (s : State) (id id' : CoreId) (f : CoreState → CoreState)
    (g : CoreState → α) (h : ∀ m, g (f m) = g m) : g ((s.modifyCore id f).core id') = g (s.core id') := by
  rw [State.core_modifyCore]
  split
  · next he => rw [h, he.1]
  · rfl

/-- No multi-core operation writes the FLAGS of any core (D8). -/
theorem TargetEffect.core_flags {s t : State} (h : TargetEffect s t) (id : CoreId) :
    (t.core id).flags = (s.core id).flags := by
  cases h with
  | none => rfl
  | core id' b => exact s.core_modifyCore_proj id' id _ CoreState.flags fun _ => rfl
  | cpu c b => exact congrArg CoreState.flags (s.core_modifyCpu c id _ fun _ => rfl)
  | pc id' w _ => exact s.core_modifyCore_proj id' id _ CoreState.flags fun _ => rfl

/-- A PC write behind its gate: the gate is that the target is halted (R426, R431, D22). -/
theorem TargetEffect.setPcIf {s : State} {gate : Bool} {id : CoreId} (w : Word)
    (h : gate = true → (s.core id).halted = true ∨ (s.cpu id.cpu).halted = true) :
    TargetEffect s (s.setPcIf gate id w) := by
  unfold State.setPcIf
  split
  · next hg => exact .pc id w (h hg)
  · exact .none

/-- A multi-core operation that answers a next state found its target and ran on it (R420). -/
theorem withTarget_next {kind : TargetKind} {n : Nat} {run : Nat → State} {s t : State}
    (h : withTarget kind n run s = .next t) : s.me.a.toNat < n ∧ t = run s.me.a.toNat := by
  unfold withTarget at h
  split at h
  · next hlt =>
    injection h with h
    exact ⟨hlt, h.symm⟩
  · cases h

/-! ## Every instruction -/

/-- What an instruction may do to FLAGS (R35, R253, D8, D47): IRET anything, the ALU bits 1:0, the others nothing. -/
def FlagsRule (i : Instr) (x y : Byte) : Prop :=
  i ≠ .iret → if isAluKind i = true then y &&& 0xFC#8 = x &&& 0xFC#8 else y = x

theorem FlagsRule.refl (i : Instr) (x : Byte) : FlagsRule i x x := by
  intro _
  split <;> rfl

/-- Work that keeps FLAGS is within the rule of every instruction. -/
theorem KeepsFlags.rule {s t : State} (h : KeepsFlags s t) (i : Instr) : OwnEffect (FlagsRule i) s t where
  self := h.self
  flags := h.flags ▸ FlagsRule.refl i _
  others := h.others
  cpus := h.cpus

/-- The ALU rewrites bits 1:0 of FLAGS and keeps bits 7:2 (R34, D47). -/
theorem flagsWith_and_high (x : Byte) (z c : Bool) : flagsWith x z c &&& 0xFC#8 = x &&& 0xFC#8 := by
  unfold flagsWith
  ext i hi
  interval_cases i <;> simp

/-- An instruction does something to a unit it addresses, then works on the executing core by its
flags rule. -/
def ExecEffect (i : Instr) (s t : State) : Prop := ∃ u, TargetEffect s u ∧ OwnEffect (FlagsRule i) u t

/-- An instruction that works on the executing core alone and keeps FLAGS. -/
theorem KeepsFlags.effect {s t : State} (h : KeepsFlags s t) (i : Instr) : ExecEffect i s t := ⟨s, .none, h.rule i⟩

/-- An ALU instruction: one change of the executing core, in which FLAGS go through `flagsWith` (R253). -/
theorem aluForm_effect {i : Instr} {s t : State} {f : CoreState → CoreState} (hi : isAluKind i = true)
    (h : Host.Outcome.next (s.updMe f) = (.next t : Result))
    (hf : ∀ m, ∃ z c, (f m).flags = flagsWith m.flags z c) : ExecEffect i s t := by
  injection h with h; subst h
  refine ⟨s, .none, .updMe (FlagsRule.refl i) s fun m _ => ?_⟩
  obtain ⟨z, c, hm⟩ := hf m
  rw [if_pos hi, hm, flagsWith_and_high]

section
variable {s t : State}

theorem updMe_keepsFlags {f : CoreState → CoreState} (h : Host.Outcome.next (s.updMe f) = (.next t : Result))
    (hf : ∀ m, (f m).flags = m.flags) : KeepsFlags s t := by
  injection h with h; subst h
  exact (KeepsFlags.refl s).updMe hf

theorem jumpIf_keepsFlags {cond : CoreState → Bool} {target : Word} (h : jumpIf cond target s = .next t) :
    KeepsFlags s t := by
  injection h with h; subst h
  exact (KeepsFlags.refl s).updMe fun m => by split <;> rfl

theorem loadRegMem_keepsFlags {r : Reg} {addr : Word} (h : loadRegMem r addr s = .next t) : KeepsFlags s t := by
  injection h with h; subst h
  exact ((KeepsFlags.refl s).memRead addr).updMe fun m => m.setReg_flags r _

theorem storeMemReg_keepsFlags {r : Reg} {addr : Word} (h : storeMemReg r addr s = .next t) : KeepsFlags s t := by
  injection h with h; subst h
  exact ((KeepsFlags.refl s).memWrite addr _).advance _

theorem pushReg_keepsFlags {r : Reg} (h : pushReg r s = .next t) : KeepsFlags s t := by
  injection h with h; subst h
  exact ((KeepsFlags.refl s).push8 _).advance _

theorem popReg_keepsFlags {r : Reg} (h : popReg r s = .next t) : KeepsFlags s t := by
  injection h with h; subst h
  exact (KeepsFlags.refl s).pop8.updMe fun m => m.setReg_flags r _

theorem execCall_keepsFlags {imm : Word} (h : execCall imm s = .next t) : KeepsFlags s t := by
  injection h with h; subst h
  exact (((KeepsFlags.refl s).push8 _).push8 _).updMe fun _ => rfl

theorem execRet_keepsFlags (h : execRet s = .next t) : KeepsFlags s t := by
  injection h with h; subst h
  exact (KeepsFlags.refl s).pop8.pop8.updMe fun _ => rfl

theorem execSyscall_keepsFlags {imm : Byte} (h : execSyscall imm s = .next t) : KeepsFlags s t := by
  unfold execSyscall at h
  split at h
  · split at h
    · injection h with h; subst h
      exact (KeepsFlags.refl s).clear.updMe fun _ => rfl
    · injection h with h; subst h
      exact (KeepsFlags.refl s).updMe fun _ => rfl
  · split at h
    · injection h with h; subst h
      exact (KeepsFlags.refl s).serve _
    · cases h

theorem execBreakpoint_keepsFlags (h : execBreakpoint s = .next t) : KeepsFlags s t := by
  unfold execBreakpoint at h
  split at h
  · injection h with h; subst h
    exact (KeepsFlags.refl s).updMe fun _ => rfl
  · injection h with h; subst h
    exact (KeepsFlags.refl s).recordBreakpoint

/-- IRET writes the FLAGS it popped (R348). -/
theorem execIret_effect (h : execIret s = .next t) : ExecEffect .iret s t := by
  injection h with h; subst h
  exact ⟨s, .none, (KeepsFlags.refl s).pop8.pop8.pop8.andThen
    (.updMe (FlagsRule.refl _) _ fun _ hne => absurd rfl hne)⟩

/-- A multi-core operation: what it does to its target, then what it does to the executing core (R420). -/
theorem withTarget_effect {i : Instr} {kind : TargetKind} {n : Nat} {run : Nat → State}
    (hrun : ∀ k, ∃ u, TargetEffect s u ∧ KeepsFlags u (run k)) (h : withTarget kind n run s = .next t) :
    ExecEffect i s t := by
  obtain ⟨-, rfl⟩ := withTarget_next h
  obtain ⟨u, htarget, hown⟩ := hrun s.me.a.toNat
  exact ⟨u, htarget, hown.rule i⟩

theorem KeepsFlags.answerInA (s : State) (v : Byte) : KeepsFlags s (s.answerInA v) :=
  (KeepsFlags.refl s).updMe fun _ => rfl

theorem execCoreStatus_effect (h : execCoreStatus s = .next t) : ExecEffect .coreStatus s t :=
  withTarget_effect (fun _ => ⟨s, .none, .answerInA s _⟩) h

theorem execCpuStatus_effect (h : execCpuStatus s = .next t) : ExecEffect .cpuStatus s t :=
  withTarget_effect (fun _ => ⟨s, .none, .answerInA s _⟩) h

theorem execCoreStart_effect (h : execCoreStart s = .next t) : ExecEffect .coreStart s t :=
  withTarget_effect (fun k => ⟨_, .core (s.sibling k) false, (KeepsFlags.refl _).advanceUnless _⟩) h

theorem execCoreHalt_effect (h : execCoreHalt s = .next t) : ExecEffect .coreHalt s t :=
  withTarget_effect (fun k => ⟨_, .core (s.sibling k) true, (KeepsFlags.refl _).advanceUnless _⟩) h

theorem execCpuStart_effect (h : execCpuStart s = .next t) : ExecEffect .cpuStart s t :=
  withTarget_effect (fun k => ⟨_, .cpu k false, (KeepsFlags.refl _).advanceUnless _⟩) h

theorem execCpuHalt_effect (h : execCpuHalt s = .next t) : ExecEffect .cpuHalt s t :=
  withTarget_effect (fun k => ⟨_, .cpu k true, (KeepsFlags.refl _).advanceUnless _⟩) h

theorem execCoreSetPc_effect (h : execCoreSetPc s = .next t) : ExecEffect .coreSetPc s t :=
  withTarget_effect (fun k => ⟨_, .setPcIf (id := s.sibling k) s.me.wordCD .inl, (KeepsFlags.refl _).advance 1⟩) h

theorem execCpuSetPc_effect (h : execCpuSetPc s = .next t) : ExecEffect .cpuSetPc s t :=
  withTarget_effect (fun k => ⟨_, .setPcIf (id := ⟨k, 0⟩) s.me.wordCD .inr, (KeepsFlags.refl _).advance 1⟩) h

end

/-- Everything an instruction can do to FLAGS, to other cores and to the CPUs' run states. -/
theorem exec_effect (i : Instr) (s t : State) (h : exec i s = .next t) : ExecEffect i s t := by
  cases i
  case call => exact (execCall_keepsFlags h).effect _
  case ret => exact (execRet_keepsFlags h).effect _
  case iret => exact execIret_effect h
  case syscall => exact (execSyscall_keepsFlags h).effect _
  case breakpoint => exact (execBreakpoint_keepsFlags h).effect _
  case jz | jnz | jc | jnc => exact (jumpIf_keepsFlags h).effect _
  case movAMem | movBMem | movCMem | movDMem => exact (loadRegMem_keepsFlags h).effect _
  case movMemA | movMemB | movMemC | movMemD => exact (storeMemReg_keepsFlags h).effect _
  case pushA | pushB | pushC | pushD => exact (pushReg_keepsFlags h).effect _
  case popA | popB | popC | popD => exact (popReg_keepsFlags h).effect _
  case coreStatus => exact execCoreStatus_effect h
  case coreStart => exact execCoreStart_effect h
  case coreHalt => exact execCoreHalt_effect h
  case coreSetPc => exact execCoreSetPc_effect h
  case cpuStatus => exact execCpuStatus_effect h
  case cpuStart => exact execCpuStart_effect h
  case cpuHalt => exact execCpuHalt_effect h
  case cpuSetPc => exact execCpuSetPc_effect h
  case nop | halt | ei | di | jmp | setSp | coreCount | cpuCount | movAImm | movBImm | movCImm | movDImm
      | movAA | movAB | movAC | movAD | movBA | movBB | movBC | movBD
      | movCA | movCB | movCC | movCD | movDA | movDB | movDC | movDD =>
    exact (updMe_keepsFlags h fun _ => rfl).effect _
  -- The ALU instructions are left.
  all_goals exact aluForm_effect rfl h fun _ => ⟨_, _, rfl⟩

/-- Settles O13: every instruction works by its flags rule, and what the multi-core operations do elsewhere writes no
FLAGS. -/
theorem flagsChangeOnlyByAluAndIret : Obligations.FlagsChangeOnlyByAluAndIret := by
  intro i s t _ h hiret
  obtain ⟨u, htarget, hown⟩ := exec_effect i s t h
  have hu : u.me.flags = s.me.flags := by rw [State.me, htarget.self_eq]; exact htarget.core_flags s.self
  have hrule := hown.flags hiret
  rw [hu] at hrule
  exact ⟨fun hk => by simpa [hk] using hrule, fun hk => by simpa [hk] using hrule⟩

/-! ## Other cores

Only `TargetEffect` reaches another core; the work before it and after it is `OwnEffect`. -/

/-- Of the core `other` no more changes than O55 allows: `halted`, and PC if it or its CPU is halted (R40, C7). -/
def RegistersKept (other : CoreId) (s t : State) : Prop :=
  t.core other = { s.core other with halted := (t.core other).halted, pc := (t.core other).pc } ∧
    ((t.core other).pc ≠ (s.core other).pc → (s.core other).halted = true ∨ (s.cpu other.cpu).halted = true)

/-- A core that is as before keeps what is its own. -/
theorem RegistersKept.of_eq {other : CoreId} {s t : State} (h : t.core other = s.core other) : RegistersKept other s t :=
  ⟨by rw [h], fun hne => absurd (congrArg CoreState.pc h) hne⟩

/-- A change of some core that is held to what O55 allows of that core is so for every core. -/
theorem RegistersKept.modifyCore {s : State} {id : CoreId} {f : CoreState → CoreState} (other : CoreId)
    (hf : ∀ m, f m = { m with halted := (f m).halted, pc := (f m).pc })
    (hpc : (f (s.core id)).pc ≠ (s.core id).pc → (s.core id).halted = true ∨ (s.cpu id.cpu).halted = true) :
    RegistersKept other s (s.modifyCore id f) := by
  by_cases hid : other = id ∧ s.hasCore id
  · obtain ⟨rfl, hcore⟩ := hid
    rw [RegistersKept, s.core_modifyCore_self other f hcore]
    exact ⟨hf _, hpc⟩
  · exact .of_eq ((s.core_modifyCore id other f).trans (if_neg hid))

theorem TargetEffect.registersKept {s t : State} (h : TargetEffect s t) (other : CoreId) :
    RegistersKept other s t := by
  cases h with
  | none => exact .of_eq rfl
  | core id b => exact .modifyCore other (fun _ => rfl) fun hne => absurd rfl hne
  | cpu c b => exact .of_eq (s.core_modifyCpu c other _ fun _ => rfl)
  | pc id w hhalt => exact .modifyCore other (fun _ => rfl) fun _ => hhalt

/-- Work of the executing core after what was done to the other core. -/
theorem RegistersKept.then_own {K : Byte → Byte → Prop} {other : CoreId} {s t u : State} (h : RegistersKept other s t)
    (k : OwnEffect K t u) (hne : other ≠ t.self) : RegistersKept other s u := by
  rw [RegistersKept, k.others other hne]
  exact h

/-- Work of the executing core before what is done to the other core. -/
theorem RegistersKept.after_own {K : Byte → Byte → Prop} {other : CoreId} {s t u : State} (h : OwnEffect K s t)
    (k : RegistersKept other t u) (hne : other ≠ s.self) : RegistersKept other s u := by
  rw [RegistersKept, ← h.others other hne, ← h.cpus other.cpu]
  exact k

theorem exec_registersKept {i : Instr} {s t : State} (h : exec i s = .next t) {other : CoreId} (hne : other ≠ s.self) :
    RegistersKept other s t := by
  obtain ⟨u, htarget, hown⟩ := exec_effect i s t h
  exact (htarget.registersKept other).then_own hown (htarget.self_eq ▸ hne)

theorem fetchExecute_registersKept {s t : State} (h : fetchExecute s = .next t) {other : CoreId}
    (hne : other ≠ s.self) : RegistersKept other s t := by
  have hfetch := KeepsFlags.fetch s
  unfold fetchExecute at h
  split at h
  · exact .after_own hfetch (exec_registersKept h (hfetch.self ▸ hne)) hne
  · injection h with h; subst h
    exact .of_eq (hfetch.unknownOpcode.others other hne)

theorem interruptOrExecute_registersKept {s t : State} (h : interruptOrExecute s = .next t) {other : CoreId}
    (hne : other ≠ s.self) : RegistersKept other s t := by
  unfold interruptOrExecute at h
  split at h
  · exact .of_eq ((KeepsFlags.interruptEntry h).others other hne)
  · exact fetchExecute_registersKept h hne

/-- Settles O55: the one part of a core-cycle that reaches another core is what a multi-core operation does to it. -/
theorem registerFilesArePrivate : Obligations.RegisterFilesArePrivate := by
  intro s t id other h hne
  change RegistersKept other (s.focus id) t
  unfold coreCycle at h
  split at h
  · injection h with h; subst h
    exact .of_eq rfl
  · split at h
    · injection h with h; subst h
      exact .of_eq ((KeepsFlags.refl (s.focus id)).recordBreakpoint.others other hne)
    · have hpass := KeepsFlags.passBreakpoint (s.focus id)
      exact .after_own hpass (interruptOrExecute_registersKept h (hpass.self ▸ hne)) hne

end Sys2Proof.Machine
end

section
/-! SUPPORT. Said once: what one core does in its own core-cycle is a sequence of moves throughout which it is the executing
core. A property that only moves of such a core keep is kept by every CPU-cycle (`cpuCycle_keeps`). -/

namespace Sys2Proof.Machine

open Sys2Proof

/-! ## Moves of one executing core -/

/-- A move after which the same core executes. -/
def SameCoreMove (s t : State) : Prop := Move s t ∧ t.self = s.self

/-- Any number of moves of one executing core. -/
abbrev SameCoreMoves : State → State → Prop := Relation.ReflTransGen SameCoreMove

/-- A property every move of one executing core keeps is kept by any number of them. -/
theorem SameCoreMoves.keeps {P : State → Prop} (hmove : ∀ s t, Move s t → t.self = s.self → P s → P t) {s t : State}
    (h : SameCoreMoves s t) (hs : P s) : P t := by
  induction h with
  | refl => exact hs
  | tail _ hm ih => exact hmove _ _ hm.1 hm.2 ih

/-! The lemmas below go on from moves of one core, so that an operation is a chain of them. -/

section
variable {s t u : State}

theorem SameCoreMoves.move (h : SameCoreMoves s t) (hm : Move t u) (hself : u.self = t.self) : SameCoreMoves s u :=
  .tail h ⟨hm, hself⟩

theorem SameCoreMoves.updMe (h : SameCoreMoves s t) (f : CoreState → CoreState) : SameCoreMoves s (t.updMe f) :=
  h.move (.me t f) rfl

theorem SameCoreMoves.memRead (h : SameCoreMoves s t) (a : Word) : SameCoreMoves s (t.memRead a).2 :=
  h.move (.read t a) (t.memRead_self a)

theorem SameCoreMoves.memWrite (h : SameCoreMoves s t) (a : Word) (v : Byte) : SameCoreMoves s (t.memWrite a v) :=
  h.move (.write t a v) (t.memWrite_self a v)

theorem SameCoreMoves.modifyCore (h : SameCoreMoves s t) (id : CoreId) (f : CoreState → CoreState) :
    SameCoreMoves s (t.modifyCore id f) :=
  h.move (.core t id f) rfl

/-- A CPU's own flags change. -/
theorem SameCoreMoves.cpuFlags (h : SameCoreMoves s t) (c : Nat) {f : CpuState → CpuState}
    (hf : ∀ p, (f p).cache = p.cache ∧ (f p).cores = p.cores) : SameCoreMoves s (t.modifyCpu c f) :=
  h.move (.cpu t c f hf) rfl

theorem SameCoreMoves.push8 (h : SameCoreMoves s t) (v : Byte) : SameCoreMoves s (t.push8 v) :=
  (h.memWrite _ v).updMe _

theorem SameCoreMoves.pop8 (h : SameCoreMoves s t) : SameCoreMoves s t.pop8.2 :=
  SameCoreMoves.memRead (h.updMe _) _

theorem SameCoreMoves.memReadBytes (h : SameCoreMoves s t) (n : Nat) (a : Word) :
    SameCoreMoves s (t.memReadBytes n a).2 := by
  induction n generalizing t a with
  | zero => exact h
  | succ n ih => exact ih (h.memRead a) (a + 1)

theorem SameCoreMoves.access (h : SameCoreMoves s t) (l : List (Word × Option Byte)) :
    SameCoreMoves s (State.access l t) := by
  induction l generalizing t with
  | nil => exact h
  | cons x l ih =>
    obtain ⟨a, _ | v⟩ := x
    · exact ih (h.memRead a)
    · exact ih (h.memWrite a v)

theorem SameCoreMoves.advanceUnless (h : SameCoreMoves s t) (own : Prop) [Decidable own] :
    SameCoreMoves s (t.advanceUnless own) := by
  unfold State.advanceUnless
  split
  · exact h
  · exact h.updMe _

theorem SameCoreMoves.setPcIf (h : SameCoreMoves s t) (gate : Bool) (id : CoreId) (w : Word) :
    SameCoreMoves s (t.setPcIf gate id w) := by
  unfold State.setPcIf
  split
  · exact h.modifyCore id _
  · exact h

theorem SameCoreMoves.recordBreakpoint (h : SameCoreMoves s t) : SameCoreMoves s t.recordBreakpoint :=
  (h.updMe _).cpuFlags _ fun _ => ⟨rfl, rfl⟩

theorem SameCoreMoves.unknownOpcode (h : SameCoreMoves s t) : SameCoreMoves s t.unknownOpcode :=
  (h.updMe _).move (.log _ _) rfl

end

/-! ## Every instruction -/

section
variable {s t : State}

/-- An answer that the moves of one core lead to. -/
theorem sameCore_of_next {u : State} (hu : SameCoreMoves s u) (h : Host.Outcome.next u = (.next t : Result)) :
    SameCoreMoves s t := by
  injection h with h; subst h; exact hu

/-- SYSCALL: the exit, a halt, or a service (R382). -/
theorem execSyscall_sameCore {imm : Byte} (h : execSyscall imm s = .next t) : SameCoreMoves s t := by
  unfold execSyscall at h
  split at h
  · split at h
    · exact sameCore_of_next ((SameCoreMoves.move .refl (.clear s) rfl).updMe _) h
    · exact sameCore_of_next (.updMe .refl _) h
  · split at h
    · exact sameCore_of_next (((SameCoreMoves.move .refl (.draw s) rfl).access _).updMe _) h
    · cases h

theorem execBreakpoint_sameCore (h : execBreakpoint s = .next t) : SameCoreMoves s t := by
  unfold execBreakpoint at h
  split at h
  · exact sameCore_of_next (.updMe .refl _) h
  · exact sameCore_of_next (.recordBreakpoint .refl) h

theorem withTarget_sameCore {kind : TargetKind} {n : Nat} {run : Nat → State} (h : withTarget kind n run s = .next t)
    (hrun : ∀ k, SameCoreMoves s (run k)) : SameCoreMoves s t := by
  obtain ⟨-, rfl⟩ := withTarget_next h
  exact hrun _

/-- An instruction is moves of the core that executes it. -/
theorem exec_sameCore {i : Instr} (h : exec i s = .next t) : SameCoreMoves s t := by
  cases i
  case syscall => exact execSyscall_sameCore h
  case breakpoint => exact execBreakpoint_sameCore h
  case call => exact sameCore_of_next (((SameCoreMoves.push8 .refl _).push8 _).updMe _) h
  case ret => exact sameCore_of_next ((SameCoreMoves.pop8 .refl).pop8.updMe _) h
  case iret => exact sameCore_of_next ((SameCoreMoves.pop8 .refl).pop8.pop8.updMe _) h
  case coreStatus => exact withTarget_sameCore (show execCoreStatus s = .next t from h) fun _ => .updMe .refl _
  case coreStart =>
    exact withTarget_sameCore (show execCoreStart s = .next t from h) fun _ =>
      (SameCoreMoves.modifyCore .refl _ _).advanceUnless _
  case coreHalt =>
    exact withTarget_sameCore (show execCoreHalt s = .next t from h) fun _ =>
      (SameCoreMoves.modifyCore .refl _ _).advanceUnless _
  case coreSetPc =>
    exact withTarget_sameCore (show execCoreSetPc s = .next t from h) fun _ =>
      (SameCoreMoves.setPcIf .refl _ _ _).updMe _
  case cpuStatus => exact withTarget_sameCore (show execCpuStatus s = .next t from h) fun _ => .updMe .refl _
  case cpuStart =>
    exact withTarget_sameCore (show execCpuStart s = .next t from h) fun k =>
      (SameCoreMoves.cpuFlags (f := fun p => p.setHalted false) .refl k fun _ => ⟨rfl, rfl⟩).advanceUnless _
  case cpuHalt =>
    exact withTarget_sameCore (show execCpuHalt s = .next t from h) fun k =>
      (SameCoreMoves.cpuFlags (f := fun p => p.setHalted true) .refl k fun _ => ⟨rfl, rfl⟩).advanceUnless _
  case cpuSetPc =>
    exact withTarget_sameCore (show execCpuSetPc s = .next t from h) fun _ =>
      (SameCoreMoves.setPcIf .refl _ _ _).updMe _
  case movAMem | movBMem | movCMem | movDMem => exact sameCore_of_next ((SameCoreMoves.memRead .refl _).updMe _) h
  case movMemA | movMemB | movMemC | movMemD => exact sameCore_of_next ((SameCoreMoves.memWrite .refl _ _).updMe _) h
  case pushA | pushB | pushC | pushD => exact sameCore_of_next ((SameCoreMoves.push8 .refl _).updMe _) h
  case popA | popB | popC | popD => exact sameCore_of_next ((SameCoreMoves.pop8 .refl).updMe _) h
  -- The other instructions change the executing core alone.
  all_goals exact sameCore_of_next (.updMe .refl _) h

/-! ## The core-cycle and the CPU-cycle -/

/-- The three pushes of the context, between updates of the core, and the acknowledgement (R481). -/
theorem enterInterrupt_sameCore (s : State) (i : Irq) : SameCoreMoves s (s.enterInterrupt i) :=
  have hmasked : SameCoreMoves s (s.updMe fun m => { m with ie := false, inHandler := true }) := .updMe .refl _
  have hpushed := ((hmasked.memWrite s.me.sp s.me.flags).memWrite (s.me.sp - 1) (hiByte s.me.pc)).memWrite
    (s.me.sp - 2) (loByte s.me.pc)
  (hpushed.updMe _).move (.acknowledge _ i) rfl

theorem interruptEntry_sameCore {i : Irq} (h : interruptEntry i s = .next t) : SameCoreMoves s t := by
  simp only [interruptEntry] at h
  split at h
  · cases h
  · exact sameCore_of_next ((enterInterrupt_sameCore s i).updMe _) h

theorem fetch_sameCore (s : State) : SameCoreMoves s s.fetch.2 :=
  have hopcode : SameCoreMoves s s.fetchOpcode := ((SameCoreMoves.updMe .refl _).memRead _).updMe _
  hopcode.memReadBytes _ _

theorem fetchExecute_sameCore (h : fetchExecute s = .next t) : SameCoreMoves s t := by
  unfold fetchExecute at h
  split at h
  · exact (fetch_sameCore s).trans (exec_sameCore h)
  · exact sameCore_of_next (fetch_sameCore s).unknownOpcode h

theorem passBreakpoint_sameCore (s : State) : SameCoreMoves s s.passBreakpoint := by
  unfold State.passBreakpoint
  split
  · exact .updMe .refl _
  · exact .refl

theorem interruptOrExecute_sameCore (h : interruptOrExecute s = .next t) : SameCoreMoves s t := by
  unfold interruptOrExecute at h
  split at h
  · exact interruptEntry_sameCore h
  · exact fetchExecute_sameCore h

/-- A core-cycle leaves the machine, or is moves of its own core. -/
theorem coreCycle_sameCore {id : CoreId} (h : coreCycle id s = .next t) : t = s ∨ SameCoreMoves (s.focus id) t := by
  unfold coreCycle at h
  split at h
  · injection h with h
    exact .inl h.symm
  · split at h
    · exact .inr (sameCore_of_next (.recordBreakpoint .refl) h)
    · exact .inr ((passBreakpoint_sameCore _).trans (interruptOrExecute_sameCore h))

end

/-- A CPU that may run exists. -/
theorem State.lt_of_mayRun {s : State} {c : Nat} {ignorePause : Bool} (h : (s.cpu c).mayRun ignorePause = true) :
    c < s.numCpus := by
  refine s.lt_of_cpu_ne c fun habsent => ?_
  rw [habsent] at h
  cases h

/-! ## The CPUs and cores there are -/

theorem ShapeKept.refl (s : State) : ShapeKept s s := ⟨rfl, fun _ => rfl⟩

theorem ShapeKept.trans {s t u : State} (h : ShapeKept s t) (k : ShapeKept t u) : ShapeKept s u :=
  ⟨k.1.trans h.1, fun c => (k.2 c).trans (h.2 c)⟩

/-- What keeps the CPUs but for their caches keeps how many CPUs and cores there are. -/
theorem ShapeKept.of_bare {s t : State} (h : t.bare = s.bare) : ShapeKept s t :=
  ⟨State.numCpus_bare h, fun c => congrArg List.length (State.cpu_cores_bare h c)⟩

/-- Changing a CPU keeps how many there are, and how many cores each has, if it keeps the number of its own. -/
theorem ShapeKept.modifyCpu (s : State) (c : Nat) {f : CpuState → CpuState}
    (hf : ∀ p, (f p).cores.length = p.cores.length) : ShapeKept s (s.modifyCpu c f) :=
  ⟨s.numCpus_modifyCpu c f, fun d => s.cpu_modifyCpu_proj c d f (fun p => p.cores.length) hf⟩

theorem ShapeKept.modifyCore (s : State) (id : CoreId) (f : CoreState → CoreState) : ShapeKept s (s.modifyCore id f) :=
  .modifyCpu s id.cpu fun _ => List.length_modify ..

/-- No move makes or removes a CPU or a core (R30). -/
theorem Move.shapeKept {s t : State} (h : Move s t) : ShapeKept s t := by
  cases h with
  | me f => exact .modifyCore s s.self f
  | read a => exact .of_bare (s.busRead_bare s.self.cpu a)
  | write a v => exact .of_bare (s.busWrite_bare s.self.cpu a v)
  | core id f => exact .modifyCore s id f
  | cpu c f hf => exact .modifyCpu s c fun p => congrArg List.length (hf p).2
  | clear => exact .of_bare (s.clearProgram.bare_map _ fun p => p.bare_cache [])
  | acknowledge i | log e | focus id | draw => exact .refl s

/-! ## Properties kept by a CPU-cycle -/

section
variable {P : State → Prop} (hfocus : ∀ s id, P s → P (s.focus id))
  (hmove : ∀ s t, Move s t → s.self.cpu < s.numCpus → P s → P t)
include hfocus hmove

/-- The core-cycles of an existing CPU keep what every move of a core of an existing CPU keeps, if it does not depend on
which core executes. -/
theorem coreCycles_keeps {c : Nat} {ks : List Nat} {s t : State} (h : coreCycles c ks s = .next t)
    (hc : c < s.numCpus) (hs : P s) : P t := by
  induction ks generalizing s with
  | nil => injection h with h; exact h ▸ hs
  | cons k ks ih =>
    obtain ⟨u, hu, ht⟩ := thenRun_next _ _ _ h
    rcases coreCycle_sameCore hu with rfl | hmoves
    · exact ih ht hc hs
    · obtain ⟨-, hlt, hu⟩ : u.self.cpu = c ∧ c < u.numCpus ∧ P u := by
        refine hmoves.keeps (P := fun v => v.self.cpu = c ∧ c < v.numCpus ∧ P v) ?_ ⟨rfl, hc, hfocus s _ hs⟩
        rintro v w hm hself ⟨hv, hlt, hP⟩
        exact ⟨hself ▸ hv, hm.shapeKept.1 ▸ hlt, hmove v w hm (hv ▸ hlt) hP⟩
      exact ih ht hlt hu

/-- So does a CPU-cycle, since a CPU that does not exist runs nothing. -/
theorem cpuCycle_keeps {c : Nat} {ignorePause : Bool} {s t : State} (h : cpuCycle c ignorePause s = .next t)
    (hs : P s) : P t := by
  unfold cpuCycle at h
  split at h
  · next hrun => exact coreCycles_keeps hfocus hmove h (State.lt_of_mayRun hrun) hs
  · injection h with h; exact h ▸ hs

end

end Sys2Proof.Machine
end

section
/-! SUPPORT. Cache coherence: storage, the caches and the memory map together. Each bus access has one lemma for whether a
cached byte can come to differ from the stored one. -/

namespace Sys2Proof.Machine

open Sys2Proof

/-! ## Storage, caches and map unchanged -/

/-- The parameters, storage and every cache are as before. -/
def SameMemory (s t : State) : Prop :=
  t.cfg = s.cfg ∧ t.mem = s.mem ∧ t.cpus.map CpuState.cache = s.cpus.map CpuState.cache

theorem SameMemory.refl (s : State) : SameMemory s s := ⟨rfl, rfl, rfl⟩

/-- Changing a CPU but for its cache. -/
theorem SameMemory.modifyCpu (s : State) (c : Nat) {f : CpuState → CpuState} (hf : ∀ p, (f p).cache = p.cache) :
    SameMemory s (s.modifyCpu c f) := by
  refine ⟨rfl, rfl, List.ext_getElem? fun i => ?_⟩
  simp only [State.modifyCpu, List.getElem?_map, List.getElem?_modify]
  cases s.cpus[i]? with
  | none => rfl
  | some p => by_cases hi : c = i <;> simp [hi, hf]

theorem SameMemory.modifyCore (s : State) (id : CoreId) (f : CoreState → CoreState) : SameMemory s (s.modifyCore id f) :=
  .modifyCpu s id.cpu fun _ => rfl

/-- A port write reaches the controller and the events only (R107). -/
theorem SameMemory.slotWrite (s : State) (slot port : Nat) (v : Byte) : SameMemory s (s.slotWrite slot port v) := by
  unfold State.slotWrite
  split
  · obtain ⟨ic, events, h⟩ := s.writeIcPort_shape port v
    rw [h]; exact .refl s
  · split <;> exact .refl s

/-- A request reaches the controller and the events only (R475). -/
theorem State.requestInterrupt_shape (s : State) (n : Nat) :
    ∃ ic events, s.requestInterrupt n = { s with ic := ic, events := events } := by
  unfold State.requestInterrupt
  dsimp only
  split
  · split <;> exact ⟨_, s.events, rfl⟩
  · exact ⟨s.ic, _, rfl⟩

theorem SameMemory.requestInterrupt (s : State) (n : Nat) : SameMemory s (s.requestInterrupt n) := by
  obtain ⟨ic, events, h⟩ := s.requestInterrupt_shape n
  rw [h]; exact .refl s

/-- Coherence by caches: it speaks of storage and of the list of the caches only. -/
theorem State.coherent_iff (s : State) :
    s.Coherent ↔ ∀ e ∈ s.cpus.map CpuState.cache, ∀ x ∈ e, x.2 = s.mem.read x.1.toNat := by
  simp only [State.Coherent, List.forall_mem_map]

theorem State.Coherent.of_sameMemory {s t : State} (hs : s.Coherent) (h : SameMemory s t) : t.Coherent := by
  obtain ⟨-, hmem, hcaches⟩ := h
  rw [State.coherent_iff] at hs ⊢
  rwa [hmem, hcaches]

/-! ## Coherence and the bus -/

/-- A CPU of the computer with one CPU changed is as before, or is the changed one. -/
theorem State.mem_modifyCpu {s : State} {c : Nat} {f : CpuState → CpuState} {p : CpuState}
    (hp : p ∈ (s.modifyCpu c f).cpus) : p ∈ s.cpus ∨ ∃ q ∈ s.cpus, p = f q := by
  obtain ⟨i, hi⟩ := List.mem_iff_getElem?.mp hp
  simp only [State.modifyCpu, List.getElem?_modify] at hi
  obtain ⟨q, hq, rfl⟩ := Option.map_eq_some_iff.mp hi
  have hmem := List.mem_of_getElem? hq
  split
  · exact .inr ⟨q, hmem, rfl⟩
  · exact .inl hmem

/-- What a read that misses enters into the cache is the stored byte; no other read changes a cache (R105). -/
theorem State.Coherent.busRead {s : State} (h : s.Coherent) (c : Nat) (a : Word) : (s.busRead c a).2.Coherent := by
  unfold State.busRead
  split
  case h_1 => exact h
  case h_2 =>
    unfold State.slotRead
    split
    · exact h
    · split <;> exact h
  case h_3 =>
    unfold State.ramRead
    split
    · exact h
    · generalize hv : s.mem.read a.toNat = v
      intro p hp x hx
      rcases State.mem_modifyCpu hp with hp | ⟨q, hq, rfl⟩
      · exact h p hp x hx
      · dsimp only at hx
        rcases Cache.mem_insert q.cache a v x hx with hx | rfl
        · exact h q hq x hx
        · exact hv.symm

/-- Where a RAM write invalidates every cache there is, each cache after one of an existing CPU is one of before without
the address (R110). -/
theorem State.cache_of_invalidatesAll {s : State} (hall : s.invalidatesAll) {c : Nat} (hc : c < s.numCpus) (a : Word)
    {p : CpuState} (hp : p ∈ (s.invalidate c a).cpus) : ∃ q ∈ s.cpus, p.cache = q.cache.invalidate a := by
  unfold State.invalidate at hp
  split at hp
  · next hscope =>
    have hone : s.numCpus ≤ 1 := hall.resolve_left fun h => by rw [h] at hscope; cases hscope
    obtain ⟨q, hq⟩ : ∃ q, s.cpus = [q] := List.length_eq_one_iff.mp (show s.numCpus = 1 by omega)
    obtain rfl : c = 0 := by omega
    simp only [State.modifyCpu, hq, List.modify_zero_cons, List.mem_singleton] at hp
    exact ⟨q, hq ▸ List.mem_singleton_self q, hp ▸ rfl⟩
  · obtain ⟨q, hq, rfl⟩ := List.mem_map.mp hp
    exact ⟨q, hq, rfl⟩

/-- A RAM write takes its address out of every cache, and leaves every other byte of storage (R106, R110). -/
theorem State.Coherent.busWrite {s : State} (h : s.Coherent) (hall : s.invalidatesAll) {c : Nat} (hc : c < s.numCpus)
    (a : Word) (v : Byte) : (s.busWrite c a v).Coherent := by
  cases hr : regionOf s.cfg a with
  | rom => rw [State.busWrite_rom _ _ _ _ hr]; exact h
  | io slot port => rw [State.busWrite_io _ _ _ _ _ _ hr]; exact h.of_sameMemory (.slotWrite s slot port v)
  | ram =>
    intro p hp x hx
    rw [State.busWrite_mem, if_pos hr]
    rw [State.busWrite_ram _ _ _ _ hr] at hp
    obtain ⟨q, hq, hcache⟩ :=
      State.cache_of_invalidatesAll (s := { s with mem := s.mem.write a.toNat v }) hall hc a hp
    obtain ⟨hxq, hne⟩ := List.mem_filter.mp (hcache ▸ hx)
    have haddr : x.1.toNat ≠ a.toNat := fun he => by simp [BitVec.eq_of_toNat_eq he] at hne
    rw [Memory.read_write_ne _ _ _ _ haddr]
    exact h q hq x hxq

/-- Empty caches are coherent. -/
theorem State.coherent_clearCaches (s : State) : s.clearCaches.Coherent := by
  intro p hp x hx
  obtain ⟨q, -, rfl⟩ := List.mem_map.mp hp
  cases hx

/-- Where no cached byte differs from the stored one, a read of storage gives the stored byte (R112, R113). -/
theorem State.Coherent.busRead_eq {s : State} (h : s.Coherent) (c : Nat) {a : Word} (ha : isStorage s.cfg a) :
    (s.busRead c a).1 = s.mem.read a.toNat := by
  rw [State.busRead_storage s c a ha, State.storageByte]
  split
  · rfl
  · cases hlookup : (s.cpu c).cache.lookup a with
    | none => rfl
    | some v =>
      have hx : (a, v) ∈ (s.cpu c).cache := Cache.mem_of_lookup _ a v hlookup
      have hc : c < s.numCpus := s.lt_of_cpu_ne c fun habsent => by rw [habsent] at hx; cases hx
      exact h (s.cpu c) (s.cpu_mem c hc) (a, v) hx

/-! ## Coherence and a step -/

/-- A RAM write invalidates every cache there is, and no cached byte differs from the stored one. -/
def State.StaysCoherent (s : State) : Prop := s.invalidatesAll ∧ s.Coherent

theorem State.invalidatesAll.of_eq {s t : State} (h : s.invalidatesAll) (hcfg : t.cfg = s.cfg)
    (hcpus : t.numCpus = s.numCpus) : t.invalidatesAll := by
  unfold State.invalidatesAll
  rwa [hcfg, hcpus]

theorem State.StaysCoherent.of_sameMemory {s t : State} (hs : s.StaysCoherent) (h : SameMemory s t) :
    t.StaysCoherent := by
  obtain ⟨hall, hcoh⟩ := hs
  obtain ⟨hcfg, -, hcaches⟩ := id h
  have hlen : t.numCpus = s.numCpus := by simpa [State.numCpus] using congrArg List.length hcaches
  exact ⟨hall.of_eq hcfg hlen, hcoh.of_sameMemory h⟩

/-- A move changes no parameter (R103). -/
theorem Move.cfg_eq {s t : State} (h : Move s t) : t.cfg = s.cfg := by
  cases h with
  | read a => exact s.memRead_cfg a
  | write a v => exact s.memWrite_cfg a v
  | _ => rfl

/-- A move of a core of an existing CPU makes no cached byte differ from the stored one. -/
theorem Move.coherent {s t : State} (h : Move s t) (hc : s.self.cpu < s.numCpus) (hall : s.invalidatesAll)
    (hs : s.Coherent) : t.Coherent := by
  cases h with
  | me f => exact hs.of_sameMemory (.modifyCore s s.self f)
  | read a => exact hs.busRead s.self.cpu a
  | write a v => exact hs.busWrite hall hc a v
  | core id f => exact hs.of_sameMemory (.modifyCore s id f)
  | cpu c f hf => exact hs.of_sameMemory (.modifyCpu s c fun p => (hf p).1)
  | clear => exact s.clearProgram.coherent_clearCaches
  | acknowledge i | log e | focus id | draw => exact hs

/-- A step is a CPU-cycle after the action is taken off the script, or leaves storage and the caches (R492). -/
theorem step_cycle_or_sameMemory {s t : State} (h : step s = .next t) :
    (∃ c ignorePause, cpuCycle c ignorePause s.nextAction.2 = .next t) ∨ SameMemory s.nextAction.2 t := by
  unfold step hostAction at h
  split at h
  case h_1 c _ => exact .inl ⟨c, false, h⟩
  case h_2 c _ => exact .inl ⟨c, true, h⟩
  all_goals injection h with h; subst h; right
  case h_3 c _ | h_4 c _ => exact .modifyCpu _ c fun _ => rfl
  case h_5 => exact .refl _
  case h_6 n _ => exact .requestInterrupt _ n

theorem SameMemory.nextAction (s : State) : SameMemory s s.nextAction.2 := by
  unfold State.nextAction
  split <;> exact .refl s

theorem State.StaysCoherent.of_step {s t : State} (hs : s.StaysCoherent) (h : step s = .next t) : t.StaysCoherent := by
  have hnext := hs.of_sameMemory (.nextAction s)
  rcases step_cycle_or_sameMemory h with ⟨c, ignorePause, hcycle⟩ | hsame
  · refine cpuCycle_keeps (P := State.StaysCoherent) (fun _ _ hu => hu) ?_ hcycle hnext
    rintro u v hm hc ⟨hall, hcoh⟩
    exact ⟨hall.of_eq hm.cfg_eq hm.shapeKept.1, hm.coherent hc hall hcoh⟩
  · exact hnext.of_sameMemory hsame

/-- Settles O37: only a core of an existing CPU runs, and its writes reach every cache. -/
theorem cachesStayCoherent : Obligations.CachesStayCoherent :=
  ⟨fun _ _ hall hs h => State.StaysCoherent.of_step ⟨hall, hs⟩ h,
    fun _ c _ hs hr => hs.busRead_eq c ((isStorage_iff _ _).mpr (.inr hr))⟩

end Sys2Proof.Machine
end

section
/-! SUPPORT. What never changes: no move and no host action touches a parameter, the CPUs and cores there are, or a byte of
ROM. -/

namespace Sys2Proof.Machine

open Sys2Proof

/-- Every byte of ROM is as before. -/
def RomKept (s t : State) : Prop := ∀ a : Word, a ≤ s.cfg.romEnd → t.mem.read a.toNat = s.mem.read a.toNat

theorem RomKept.of_mem_eq {s t : State} (h : t.mem = s.mem) : RomKept s t := fun _ _ => by rw [h]

theorem RomKept.trans {s t u : State} (h : RomKept s t) (k : RomKept t u) (hcfg : t.cfg = s.cfg) : RomKept s u :=
  fun a ha => (k a (hcfg ▸ ha)).trans (h a ha)

/-- A write stores to RAM only (R106). -/
theorem RomKept.busWrite (s : State) (c : Nat) (a : Word) (v : Byte) : RomKept s (s.busWrite c a v) := by
  intro b hb
  rw [State.busWrite_mem]
  split
  · next hram =>
    have hlt : s.cfg.romEnd < a := ((regionOf_ram _ _).mp hram).1
    exact Memory.read_write_ne _ _ _ _ (by bv_omega)
  · rfl

/-- SYSCALL 0 clears from ROM_END + 1 on at the lowest (R382, log 12). -/
theorem RomKept.clearProgram (s : State) : RomKept s s.clearProgram := by
  intro a ha
  rw [State.clearProgram, Memory.read_clear, if_neg]
  bv_omega

theorem Move.romKept {s t : State} (h : Move s t) : RomKept s t := by
  cases h with
  | read a => exact .of_mem_eq (s.memRead_mem a)
  | write a v => exact .busWrite s s.self.cpu a v
  | clear => exact .clearProgram s
  | _ => exact .of_mem_eq rfl

/-- The parameters, the CPUs and cores there are, and ROM are as before. -/
def MapKept (s t : State) : Prop := t.cfg = s.cfg ∧ ShapeKept s t ∧ RomKept s t

theorem MapKept.trans {s t u : State} (h : MapKept s t) (k : MapKept t u) : MapKept s u := by
  obtain ⟨hcfg, hshape, hrom⟩ := h
  obtain ⟨kcfg, kshape, krom⟩ := k
  exact ⟨kcfg.trans hcfg, hshape.trans kshape, hrom.trans krom hcfg⟩

/-- What changes neither the parameters, nor a CPU, nor storage. -/
theorem MapKept.of_eq {s t : State} (hcfg : t.cfg = s.cfg) (hcpus : t.cpus = s.cpus) (hmem : t.mem = s.mem) :
    MapKept s t :=
  ⟨hcfg, .of_bare (congrArg (List.map CpuState.bare) hcpus), .of_mem_eq hmem⟩

theorem Move.mapKept {s t : State} (h : Move s t) : MapKept s t := ⟨h.cfg_eq, h.shapeKept, h.romKept⟩

theorem MapKept.nextAction (s : State) : MapKept s s.nextAction.2 := by
  unfold State.nextAction
  split <;> exact .of_eq rfl rfl rfl

theorem MapKept.requestInterrupt (s : State) (n : Nat) : MapKept s (s.requestInterrupt n) := by
  obtain ⟨ic, events, h⟩ := s.requestInterrupt_shape n
  rw [h]; exact .of_eq rfl rfl rfl

/-- Settles O38: every move of a core-cycle keeps the map and ROM, and so does every host action that runs no core. -/
theorem mapAndRomNeverChange : Obligations.MapAndRomNeverChange := fun s t h =>
  step_keeps (P := MapKept s) (fun _ _ hm hs => hs.trans hm.mapKept) (fun u hs => hs.trans (.nextAction u))
    (fun u c _ hs => hs.trans ⟨rfl, .modifyCpu u c fun _ => rfl, .of_mem_eq rfl⟩) (fun _ _ hs => hs)
    (fun u n hs => hs.trans (.requestInterrupt u n)) s t h (.of_eq rfl rfl rfl)

end Sys2Proof.Machine
end

section
/-! SUPPORT. MemRead and MemWrite, region by region. -/

namespace Sys2Proof.Machine

open Sys2Proof

/-! ## Reads -/

/-- What a read of ROM does (R105). -/
theorem State.busRead_rom (s : State) (c : Nat) (a : Word) (h : regionOf s.cfg a = .rom) :
    s.busRead c a = (s.mem.read a.toNat, s) := by rw [State.busRead, h]

/-- What a read of I/O does (R105, R107). -/
theorem State.busRead_io (s : State) (c : Nat) (a : Word) (slot port : Nat) (h : regionOf s.cfg a = .io slot port) :
    s.busRead c a = s.slotRead slot port := by rw [State.busRead, h]

/-- What a read of RAM does (R105). -/
theorem State.busRead_ram (s : State) (c : Nat) (a : Word) (h : regionOf s.cfg a = .ram) :
    s.busRead c a = s.ramRead c a := by rw [State.busRead, h]

theorem State.ramRead_hit {s : State} {c : Nat} {a : Word} {v : Byte} (h : (s.cpu c).cache.lookup a = some v) :
    s.ramRead c a = (v, s) := by rw [State.ramRead, h]

theorem State.ramRead_miss {s : State} {c : Nat} {a : Word} (h : (s.cpu c).cache.lookup a = none) :
    s.ramRead c a =
      (s.mem.read a.toNat, s.modifyCpu c fun p => { p with cache := p.cache.insert a (s.mem.read a.toNat) }) := by
  rw [State.ramRead, h]

/-- Settles O32: one equation per region, and within I/O and RAM one per branch. -/
theorem readsGoByRegion : Obligations.ReadsGoByRegion := by
  intro s c a
  refine ⟨fun hrom => s.busRead_rom c a ((regionOf_rom _ _).mpr hrom), fun hlt hio => ?_, fun hlt hram => ?_⟩
  · rw [s.busRead_io c a _ _ (regionOf_io s.cfg a hlt hio)]
    exact ⟨fun hic => if_pos hic, fun hic hdev => (if_neg hic).trans (if_pos hdev),
      fun hic hdev => (if_neg hic).trans (if_neg hdev)⟩
  · rw [s.busRead_ram c a ((regionOf_ram _ _).mpr ⟨hlt, hram⟩)]
    exact ⟨fun _ hhit => State.ramRead_hit hhit, fun hmiss => State.ramRead_miss hmiss⟩

/-- Settles O33. -/
theorem romWriteIsDroppedWithWarning : Obligations.RomWriteIsDroppedWithWarning :=
  fun s c a v ha => s.busWrite_rom c a v ((regionOf_rom _ _).mpr ha)

/-- Settles O35: the address of a slot and port lies in the window, and the divisions by 16 give them back. -/
theorem ioAddressesAreSlotsAndPorts : Obligations.IoAddressesAreSlotsAndPorts := by
  intro cfg slot port hrom hslot hport
  have haddr : (BitVec.ofNat 16 (0xFF00 + 16 * slot + port)).toNat = 0xFF00 + 16 * slot + port := by
    rw [BitVec.toNat_ofNat]
    exact Nat.mod_eq_of_lt (by omega)
  have hbase : ioBase.toNat = 0xFF00 := rfl
  have hio : ioBase ≤ BitVec.ofNat 16 (0xFF00 + 16 * slot + port) := by rw [BitVec.le_def]; omega
  have hlt : cfg.romEnd < BitVec.ofNat 16 (0xFF00 + 16 * slot + port) := by
    rw [BitVec.lt_def] at hrom ⊢
    exact Nat.lt_of_lt_of_le hrom (BitVec.le_def.mp hio)
  have hoffset : (BitVec.ofNat 16 (0xFF00 + 16 * slot + port)).toNat - ioBase.toNat = 16 * slot + port := by omega
  rw [regionOf_io cfg _ hlt hio, hoffset, Nat.mul_add_div (by decide), Nat.mul_add_mod, Nat.div_eq_of_lt hport,
    Nat.mod_eq_of_lt hport, Nat.add_zero]

/-! ## Caches -/

theorem Cache.insert_of_lt {e : Cache} (h : e.length < 128) (a : Word) (v : Byte) : e.insert a v = e ++ [(a, v)] := by
  have hdrop : (e ++ [(a, v)]).length - cacheMax = 0 := by simp [cacheMax]; omega
  rw [Cache.insert, hdrop, List.drop_zero]

theorem Cache.insert_of_full {e : Cache} (h : e.length = 128) (a : Word) (v : Byte) :
    e.insert a v = e.tail ++ [(a, v)] := by
  have hdrop : (e ++ [(a, v)]).length - cacheMax = 1 := by simp [cacheMax, h]
  have hne : e ≠ [] := fun he => by simp [he] at h
  rw [Cache.insert, hdrop, List.drop_one, List.tail_append_of_ne_nil hne]

theorem Cache.mem_invalidate (e : Cache) (a : Word) (x : Word × Byte) : x ∈ e.invalidate a ↔ x ∈ e ∧ x.1 ≠ a := by
  simp [Cache.invalidate]

/-- Settles O36. -/
theorem cacheIsFirstInFirstOut : Obligations.CacheIsFirstInFirstOut := fun e a v =>
  ⟨fun h => Cache.insert_of_lt h a v, fun h => Cache.insert_of_full h a v, List.filter_sublist,
    fun x => Cache.mem_invalidate e a x⟩

/-! ## Writes to RAM -/

/-- A RAM write leaves the interrupt controller and the events (R106). -/
theorem State.devicesKept_busWrite_ram {s : State} {a : Word} (c : Nat) (v : Byte) (h : regionOf s.cfg a = .ram) :
    DevicesKept s (s.busWrite c a v) := by
  rw [State.busWrite_ram _ _ _ _ h, State.invalidate]
  split <;> exact ⟨rfl, rfl, rfl⟩

/-- Scope OWN_CPU: the writing CPU's cache alone loses the address (R110). -/
theorem State.cache_busWrite_ownCpu {s : State} {c : Nat} {a : Word} (v : Byte) (hc : c < s.numCpus)
    (hr : regionOf s.cfg a = .ram) (hscope : s.cfg.invalidateScope = .ownCpu) (d : Nat) :
    ((s.busWrite c a v).cpu d).cache = if d = c then (s.cpu d).cache.invalidate a else (s.cpu d).cache := by
  simp only [State.busWrite_ram _ _ _ _ hr, State.invalidate, hscope]
  by_cases hd : d = c
  · subst hd
    rw [if_pos rfl, State.cpu_modifyCpu_self { s with mem := s.mem.write a.toNat v } d _ hc]
    rfl
  · rw [if_neg hd, State.cpu_modifyCpu_ne _ _ _ _ hd]
    rfl

/-- Scope ALL_CPUS: every cache loses the address (R110). -/
theorem State.cache_busWrite_allCpus {s : State} (c : Nat) {a : Word} (v : Byte) (hr : regionOf s.cfg a = .ram)
    (hscope : s.cfg.invalidateScope = .allCpus) (d : Nat) :
    ((s.busWrite c a v).cpu d).cache = (s.cpu d).cache.invalidate a := by
  simp only [State.busWrite_ram _ _ _ _ hr, State.invalidate, hscope]
  rw [State.cpu_map { s with mem := s.mem.write a.toNat v } d]
  split
  · rfl
  · next hd =>
    have habsent : s.cpu d = CpuState.absent := s.cpu_of_le d (Nat.le_of_not_lt hd)
    exact (congrArg CpuState.cache habsent).trans (congrArg (fun p => p.cache.invalidate a) habsent.symm)

/-- Settles O34: the write stores, invalidates, and reaches nothing but storage and caches. -/
theorem ramWriteIsReadBack : Obligations.RamWriteIsReadBack := by
  intro s c a v hs hc hr
  obtain ⟨⟨hrising, -⟩, -⟩ := hs
  have hbare := s.busWrite_bare c a v
  exact ⟨s.busRead_busWrite_self c a v hc hrising hr, s.busWrite_stored c a v hrising hr, s.busWrite_kept c a v,
    State.cache_busWrite_ownCpu v hc hr, State.cache_busWrite_allCpus c v hr, fun id _ => State.core_bare hbare id,
    .of_bare hbare, fun d => ⟨State.cpu_halted_bare hbare d, State.cpu_paused_bare hbare d⟩,
    ⟨s.busWrite_cfg c a v, s.busWrite_breakpoints c a v, s.busWrite_self c a v, s.busWrite_host c a v,
      s.busWrite_turn c a v⟩,
    State.devicesKept_busWrite_ram c v hr⟩

/-! ## The controller's ports -/

/-- Ports 8 to 15 read 0 (R474). -/
theorem IcState.readPort_of_ge (ic : IcState) {q : Nat} (h : 8 ≤ q) : ic.readPort q = 0#8 := by
  obtain ⟨k, rfl⟩ := Nat.exists_eq_add_of_le' h
  rfl

/-- Writes to ports 8 to 15 are ignored (R474). -/
theorem State.writeIcPort_of_ge (s : State) {q : Nat} (h : 8 ≤ q) (v : Byte) : s.writeIcPort q v = s := by
  obtain ⟨k, rfl⟩ := Nat.exists_eq_add_of_le' h
  rfl

/-- Port 4 replaces the low byte of the handler address (R472). -/
theorem handlerAddr_setLow (w : Word) (v : Byte) : (w &&& 0xFF00#16) ||| v.setWidth 16 = w16 v (hiByte w) := by
  apply BitVec.eq_of_getLsbD_eq
  intro i hi
  simp only [w16, hiByte, BitVec.getLsbD_append]
  interval_cases i <;> simp

/-- Port 5 replaces the high byte of the handler address (R472). -/
theorem handlerAddr_setHigh (w : Word) (v : Byte) : (w &&& 0x00FF#16) ||| (v.setWidth 16 <<< 8) = w16 (loByte w) v := by
  apply BitVec.eq_of_getLsbD_eq
  intro i hi
  simp only [w16, loByte, BitVec.getLsbD_append]
  interval_cases i <;> simp

/-- Settles O39: the dispatch by slot, then one equation per port. -/
theorem controllerPortsReadAndWrite : Obligations.ControllerPortsReadAndWrite := by
  intro s c a v
  refine ⟨fun hlt hio => ?_, ⟨rfl, rfl, rfl, rfl, ?_, rfl, rfl, fun q => s.ic.readPort_of_ge⟩,
    rfl, rfl, rfl, rfl, ?_, ?_, fun q hq => s.writeIcPort_of_ge hq v⟩
  · rw [s.busWrite_io c a v _ _ (regionOf_io s.cfg a hlt hio)]
    exact ⟨fun hic => if_pos hic, fun hic hdev => (if_neg hic).trans (if_pos hdev),
      fun hic hdev => (if_neg hic).trans (if_neg hdev)⟩
  · exact Laws.w16_lo_hi s.ic.handlerAddr
  · rw [← handlerAddr_setLow]; rfl
  · rw [← handlerAddr_setHigh]; rfl

end Sys2Proof.Machine
end

section
/-! SUPPORT. The fetch: which bytes the decoder needs, and that reads of coherent storage give the stored ones. -/

namespace Sys2Proof.Machine

open Sys2Proof

/-! ## Decoding what is fetched -/

/-- A reading of the opcode and operand bytes that answers an instruction found that instruction. -/
theorem eq_some_of_elim_ok {o : Option Instr} {e : DecodeError} {i : Instr} {l rest : List Byte}
    (h : o.elim (.error e) (fun j => .ok (j, l)) = (.ok (i, rest) : Except DecodeError (Instr × List Byte))) :
    o = some i := by
  cases o with
  | none => cases h
  | some j =>
    injection h with h
    rw [(Prod.mk.inj h).1]

/-- An opcode byte that is decoded selects a length of 1, 2 or 3, and no byte beyond that length counts (R160). -/
theorem decode_fetched {m : OpcodeMap} {b0 b1 b2 : Byte} {i : Instr} {rest : List Byte}
    (h : decode m [b0, b1, b2] = .ok (i, rest)) :
    opcodeLength m b0 - 1 ≤ 2 ∧ decode m (b0 :: [b1, b2].take (opcodeLength m b0 - 1)) = .ok (i, []) := by
  have hlen (k : Byte) (hk : m.kindOf b0 = some k) : opcodeLength m b0 = (kindLength k).getD 1 := by
    rw [opcodeLength, hk]; rfl
  unfold decode at h ⊢
  cases hk : m.kindOf b0 with
  | none => simp [hk] at h
  | some k =>
    rw [hlen k hk]
    simp only [hk] at h ⊢
    cases hkind : kindLength k with
    | none => simp [hkind] at h
    | some n =>
      simp only [hkind] at h ⊢
      match n with
      | 1 => exact ⟨by decide, by simp [eq_some_of_elim_ok h]⟩
      | 2 => exact ⟨by decide, by simp [eq_some_of_elim_ok h]⟩
      | 3 => exact ⟨by decide, by simp [eq_some_of_elim_ok h]⟩
      | 0 | _ + 4 => simp at h

/-! ## Reads that follow each other -/

/-- What a sequence of reads leaves: all but caches and the oracle's counter (R105, R108). -/
theorem State.memReadBytes_kept (s : State) (n : Nat) (a : Word) :
    (s.memReadBytes n a).2.bare = s.bare ∧ (s.memReadBytes n a).2.self = s.self ∧ (s.memReadBytes n a).2.mem = s.mem ∧
      (s.memReadBytes n a).2.ic = s.ic ∧ (s.memReadBytes n a).2.events = s.events := by
  induction n generalizing s a with
  | zero => exact ⟨rfl, rfl, rfl, rfl, rfl⟩
  | succ n ih =>
    obtain ⟨hbare, hself, hmem, hic, hevents⟩ := ih (s.memRead a).2 (a + 1)
    exact ⟨hbare.trans (s.busRead_bare _ a), hself.trans (s.memRead_self a), hmem.trans (s.memRead_mem a),
      hic.trans (s.memRead_ic a), hevents.trans (s.memRead_events a)⟩

theorem add_one_add_ofNat (a : Word) (k : Nat) : a + 1 + BitVec.ofNat 16 k = a + BitVec.ofNat 16 (k + 1) := by
  rw [BitVec.add_assoc, Nat.add_comm k 1, BitVec.ofNat_add]
  rfl

/-- Reads of coherent storage give the stored bytes, one after the other (R108, R113). -/
theorem State.Coherent.memReadBytes {s : State} (h : s.Coherent) {n : Nat} {a : Word}
    (ha : ∀ k < n, isStorage s.cfg (a + BitVec.ofNat 16 k)) :
    (s.memReadBytes n a).1 = (List.range n).map fun k => s.mem.read (a + BitVec.ofNat 16 k).toNat := by
  induction n generalizing s a with
  | zero => rfl
  | succ n ih =>
    have hfirst : (s.memRead a).1 = s.mem.read a.toNat :=
      h.busRead_eq _ (by simpa using ha 0 (Nat.succ_pos n))
    have hothers := ih (s := (s.memRead a).2) (a := a + 1) (h.busRead _ a) fun k hk => by
      rw [s.memRead_cfg, add_one_add_ofNat]
      exact ha (k + 1) (Nat.succ_lt_succ hk)
    simp only [add_one_add_ofNat] at hothers
    rw [State.memReadBytes, hothers, hfirst, s.memRead_mem, List.range_succ_eq_map, List.map_cons, List.map_map,
      show BitVec.ofNat 16 0 = 0#16 from rfl, BitVec.add_zero]
    rfl

/-! ## The fetch -/

/-- The opcode fetch of coherent storage: the stored byte to IR, and storage stays coherent (R208). -/
theorem State.Coherent.fetchOpcode {s : State} (h : s.Coherent) (hcore : s.hasCore s.self)
    (hpc : isStorage s.cfg s.me.pc) :
    s.fetchOpcode.Coherent ∧ s.fetchOpcode.me = { s.me with
      ir := s.mem.read s.me.pc.toNat, cycleCount := s.me.cycleCount + 1 } := by
  have hbyte : (s.memRead s.me.pc).1 = s.mem.read s.me.pc.toNat := h.busRead_eq _ hpc
  rw [s.fetchOpcode_spec hcore, hbyte]
  refine ⟨State.Coherent.of_sameMemory (h.busRead _ _) (.modifyCore _ _ _), State.me_updMe _ _ ?_⟩
  rwa [s.memRead_self, s.hasCore_memRead]

theorem State.fetchOpcode_cfg (s : State) : s.fetchOpcode.cfg = s.cfg := by
  simp only [State.fetchOpcode, State.updMe_cfg, State.memRead_cfg]

theorem State.fetchOpcode_mem (s : State) : s.fetchOpcode.mem = s.mem := by
  simp only [State.fetchOpcode, State.updMe_mem, State.memRead_mem]

/-- The fetch reaches caches, the oracle's counter and the fetching core only (R208). -/
theorem State.fetch_kept (s : State) :
    s.fetch.2.me = s.fetchOpcode.me ∧ s.fetch.2.mem = s.mem ∧ s.fetch.2.ic = s.ic ∧ s.fetch.2.events = s.events := by
  obtain ⟨hbare, hself, hmem, hic, hevents⟩ := s.fetchOpcode.memReadBytes_kept
    (opcodeLength s.fetchOpcode.cfg.opcodeMap s.fetchOpcode.me.ir - 1) (s.fetchOpcode.me.pc + 1)
  refine ⟨?_, hmem.trans s.fetchOpcode_mem, hic.trans ?_, hevents.trans ?_⟩
  · rw [State.me, State.me, show s.fetch.2.self = s.fetchOpcode.self from hself]
    exact State.core_bare hbare _
  · simp only [State.fetchOpcode, State.updMe_ic, State.memRead_ic]
  · simp only [State.fetchOpcode, State.updMe_events, State.memRead_events]

/-- Settles O52: the opcode byte and the operand bytes its length asks for are the stored ones. -/
theorem fetchReadsTheStoredProgram : Obligations.FetchReadsTheStoredProgram := by
  intro s i rest hcoh hcore hstorage stored hdecode
  obtain ⟨hme, hmem, hic, hevents⟩ := s.fetch_kept
  obtain ⟨hlen, hfetched⟩ := decode_fetched hdecode
  have hpc : s.me.pc + BitVec.ofNat 16 0 = s.me.pc := BitVec.add_zero _
  obtain ⟨hopcodeCoh, hopcode⟩ := hcoh.fetchOpcode hcore (hpc ▸ hstorage 0 (by decide))
  have hir : s.fetchOpcode.me = { s.me with ir := stored 0, cycleCount := s.me.cycleCount + 1 } := by
    simpa only [stored, hpc] using hopcode
  have hoperands : s.fetchOpcode.fetchOperands.1 =
      [stored 1, stored 2].take (opcodeLength s.cfg.opcodeMap (stored 0) - 1) := by
    simp only [State.fetchOperands, hir, s.fetchOpcode_cfg]
    rw [hopcodeCoh.memReadBytes]
    · simp only [s.fetchOpcode_mem, add_one_add_ofNat]
      rw [show [stored 1, stored 2] = (List.range 2).map fun k => stored (k + 1) from rfl, ← List.map_take,
        List.take_range, Nat.min_eq_left hlen]
    · intro k hk
      rw [s.fetchOpcode_cfg, add_one_add_ofNat]
      exact hstorage (k + 1) (by omega)
  refine ⟨?_, hme.trans hir, hmem, hic, hevents, fun id hid => (KeepsFlags.fetch s).others id ?_⟩
  · simp only [State.fetch, hoperands, hir, hfetched]
    rfl
  · exact fun he => hid (List.mem_singleton.mpr he)

end Sys2Proof.Machine
end

section
/-! SUPPORT. The encoding (30_encoding.md): decoding answers an instruction exactly on an opcode byte of its kind
followed by its operand bytes, and the statements that follow from it. -/

namespace Sys2Proof.Laws

open Sys2Proof Sys2Proof.Machine

/-! ## The two bytes of a word -/

@[simp] theorem loByte_w16 (lo hi : Byte) : loByte (w16 lo hi) = lo :=
  BitVec.extractLsb'_append_eq_right

@[simp] theorem hiByte_w16 (lo hi : Byte) : hiByte (w16 lo hi) = hi :=
  BitVec.extractLsb'_append_eq_left

/-! ## REF_MAP and the table's own bytes -/

open RefCode in
/-- REF_MAP reads every instruction back: the lemmas of each constructor put together (R161, R166). -/
theorem refInstr_readsBack (i : Instr) : RefCode.Statement i :=
  i.rec (motive := RefCode.Statement)
    nop halt syscall breakpoint ei di iret ret call jmp jz jnz jc jnc setSp pushA pushB pushC pushD popA popB popC
    popD incA incB incC incD decA decB decC decD notA notB notC notD movAImm movBImm movCImm movDImm movAMem movBMem
    movCMem movDMem movMemA movMemB movMemC movMemD movAA movAB movAC movAD movBA movBB movBC movBD movCA movCB
    movCC movCD movDA movDB movDC movDD addAA addAB addAC addAD addBA addBB addBC addBD addCA addCB addCC addCD
    addDA addDB addDC addDD subAA subAB subAC subAD subBA subBB subBC subBD subCA subCB subCC subCD subDA subDB
    subDC subDD andAA andAB andAC andAD andBA andBB andBC andBD andCA andCB andCC andCD andDA andDB andDC andDD orAA
    orAB orAC orAD orBA orBB orBC orBD orCA orCB orCC orCD orDA orDB orDC orDD xorAA xorAB xorAC xorAD xorBA xorBB
    xorBC xorBD xorCA xorCB xorCC xorCD xorDA xorDB xorDC xorDD cmpAA cmpAB cmpAC cmpAD cmpBA cmpBB cmpBC cmpBD
    cmpCA cmpCB cmpCC cmpCD cmpDA cmpDB cmpDC cmpDD testAA testAB testAC testAD testBA testBB testBC testBD testCA
    testCB testCC testCD testDA testDB testDC testDD addAImm addBImm addCImm addDImm subAImm subBImm subCImm subDImm
    andAImm andBImm andCImm andDImm orAImm orBImm orCImm orDImm xorAImm xorBImm xorCImm xorDImm cmpAImm cmpBImm
    cmpCImm cmpDImm testAImm testBImm testCImm testDImm shlAImm shlBImm shlCImm shlDImm shrAImm shrBImm shrCImm
    shrDImm rolAImm rolBImm rolCImm rolDImm rorAImm rorBImm rorCImm rorDImm coreCount coreStatus coreStart coreHalt
    coreSetPc cpuCount cpuStatus cpuStart cpuHalt cpuSetPc

/-- The first `n` of two operand bytes, two of them as the bytes of the word REF_MAP reads there (R161). -/
def operandsRead (b1 b2 : Byte) : Nat → List Byte
  | 0 => []
  | 1 => [b1]
  | _ => [loByte (w16 b1 b2), hiByte (w16 b1 b2)]

theorem operandsRead_eq_take (b1 b2 : Byte) : ∀ n, operandsRead b1 b2 n = [b1, b2].take n
  | 0 => rfl
  | 1 => rfl
  | _ + 2 => by simp [operandsRead]

/-- The code and the operand bytes of what REF_MAP reads on the opcode byte of `j`, whatever two bytes follow. -/
theorem refInstr_code_map (j : Instr) (b1 b2 : Byte) : (refInstr j.code b1 b2).map (fun i => (i.code, i.operandBytes)) =
    some (j.code, operandsRead b1 b2 j.operandBytes.length) := by
  cases j <;> dsimp only [Instr.code] <;> rfl

/-- Before any two bytes, the opcode byte of `j` reads as an instruction of that kind: its operand bytes are the first
of the two, as many as `j` has (R160, R161). -/
theorem refInstr_code (j : Instr) (b1 b2 : Byte) : ∃ i, refInstr j.code b1 b2 = some i ∧ i.code = j.code ∧
    i.operandBytes = [b1, b2].take j.operandBytes.length := by
  obtain ⟨i, hi, hread⟩ := Option.map_eq_some_iff.mp (refInstr_code_map j b1 b2)
  obtain ⟨hcode, hops⟩ := Prod.mk.inj hread
  exact ⟨i, hi, hcode, hops.trans (operandsRead_eq_take _ _ _)⟩

theorem operandBytes_length_le (i : Instr) : i.operandBytes.length ≤ 2 := by
  obtain ⟨j, hj, -, hops⟩ := refInstr_code i (i.operandBytes.getD 0 0#8) (i.operandBytes.getD 1 0#8)
  obtain rfl : i = j := Option.some.inj ((refInstr_readsBack i 0#8 0#8).symm.trans hj)
  exact hops ▸ List.length_take_le' _ _

/-- Every byte REF_MAP assigns is the opcode byte the table gives that instruction (R166). -/
theorem code_of_refInstr_zero : ∀ k : Byte, ∀ j ∈ refInstr k 0#8 0#8, j.code = k := by decide

/-- The bytes REF_MAP assigns no kind (R167). -/
theorem kindLength_eq_none_iff : ∀ k : Byte, kindLength k = none ↔
    k = 0x0F#8 ∨ (0xDC#8 ≤ k ∧ k ≤ 0xDF#8) ∨ 0xEA#8 ≤ k := by decide

/-- The opcode byte and the operand bytes determine the instruction (R160). -/
theorem eq_of_code_of_operandBytes {i j : Instr} (hcode : i.code = j.code) (hops : i.operandBytes = j.operandBytes) :
    i = j := by
  have hi := refInstr_readsBack i 0#8 0#8
  rw [hcode, hops, refInstr_readsBack j] at hi
  exact (Option.some.inj hi).symm

@[simp] theorem kindLength_code (i : Instr) : kindLength i.code = some i.length := by
  obtain ⟨j, hj, -, hops⟩ := refInstr_code i 0#8 0#8
  rw [kindLength, hj, Option.map_some, Instr.length, Instr.length, hops,
    List.length_take_of_le (operandBytes_length_le i)]

/-- Every byte with a length is the opcode byte of some instruction. -/
theorem exists_code_of_kindLength {k : Byte} {n : Nat} (h : kindLength k = some n) : ∃ j : Instr, j.code = k := by
  obtain ⟨j, hj, -⟩ := Option.map_eq_some_iff.mp h
  exact ⟨j, code_of_refInstr_zero k j hj⟩

/-! ## What the decoder answers for an opcode byte of a kind -/

section
variable {m : OpcodeMap} {b0 : Byte} {j : Instr} (hkind : m.kindOf b0 = some j.code)
include hkind

/-- Operand bytes in the number the kind asks for are taken, and what follows is left (R160, R161). -/
theorem decode_operands {ops : List Byte} (hops : ops.length = j.operandBytes.length) (rest : List Byte) :
    ∃ i, decode m (b0 :: (ops ++ rest)) = .ok (i, rest) ∧ i.code = j.code ∧ i.operandBytes = ops := by
  have hlength : kindLength j.code = some (1 + ops.length) := by rw [kindLength_code, Instr.length, hops]
  have hle : ops.length ≤ 2 := hops ▸ operandBytes_length_le j
  obtain ⟨i, hi, hcode, htake⟩ := refInstr_code j (ops.getD 0 0#8) (ops.getD 1 0#8)
  rw [← hops] at htake
  clear hops
  refine ⟨i, ?_, hcode, ?_⟩ <;> match ops with
  | [] | [_] | [_, _] => simp_all [decode]
  | _ :: _ :: _ :: _ => simp at hle

/-- Fewer operand bytes than the kind asks for are a truncated instruction (R160). -/
theorem decode_truncated {tail : List Byte} (hshort : tail.length < j.operandBytes.length) :
    decode m (b0 :: tail) = .error .truncated := by
  have hlength : kindLength j.code = some (1 + j.operandBytes.length) := kindLength_code j
  have hle := operandBytes_length_le j
  generalize j.operandBytes.length = n at *
  match n, tail with
  | 1, [] | 2, [] | 2, [_] => simp [decode, hkind, hlength]
  | 1, _ :: _ | 2, _ :: _ :: _ => simp at hshort
  | _ + 3, _ => omega

end

/-- What the decoder answers (R160, R161, R164, R168): an unknown opcode for a byte without a kind of REF_MAP, and for
an opcode byte of a kind either a truncated instruction or an instruction of that kind with its operand bytes taken. -/
theorem decode_cons_cases (m : OpcodeMap) (b0 : Byte) (tail : List Byte) :
    ((m.kindOf b0).bind kindLength = none ∧ decode m (b0 :: tail) = .error (.unknownOpcode b0)) ∨
    ∃ i : Instr, m.kindOf b0 = some i.code ∧
      (decode m (b0 :: tail) = .error .truncated ∨
        ∃ rest, tail = i.operandBytes ++ rest ∧ decode m (b0 :: tail) = .ok (i, rest)) := by
  cases hkind : m.kindOf b0 with
  | none => exact .inl ⟨rfl, by simp [decode, hkind]⟩
  | some k =>
    cases hlength : kindLength k with
    | none => exact .inl ⟨hlength, by simp [decode, hkind, hlength]⟩
    | some n =>
      obtain ⟨j, rfl⟩ := exists_code_of_kindLength hlength
      rcases Nat.lt_or_ge tail.length j.operandBytes.length with hshort | hlong
      · exact .inr ⟨j, rfl, .inl (decode_truncated hkind hshort)⟩
      · obtain ⟨i, hdecode, hcode, hops⟩ := decode_operands hkind (List.length_take_of_le hlong) (tail.drop _)
        rw [List.take_append_drop] at hdecode
        exact .inr ⟨i, by rw [hcode], .inr ⟨_, by rw [hops, List.take_append_drop], hdecode⟩⟩

/-- The opcode byte is unknown exactly where the map gives it no kind of REF_MAP (R164, R168). -/
theorem decode_eq_unknownOpcode_iff {m : OpcodeMap} {b0 : Byte} {tail : List Byte} :
    decode m (b0 :: tail) = .error (.unknownOpcode b0) ↔ (m.kindOf b0).bind kindLength = none := by
  rcases decode_cons_cases m b0 tail with ⟨hnone, hdecode⟩ | ⟨i, hkind, hdecode | ⟨rest, -, hdecode⟩⟩
  · simp [hnone, hdecode]
  · simp [hkind, hdecode]
  · simp [hkind, hdecode]

/-- The decoder answers an instruction exactly on an opcode byte of its kind followed by its operand bytes (R160, R161,
R164). -/
theorem decode_eq_ok_iff {m : OpcodeMap} {bytes rest : List Byte} {i : Instr} : decode m bytes = .ok (i, rest) ↔
    ∃ b0, bytes = b0 :: (i.operandBytes ++ rest) ∧ m.kindOf b0 = some i.code := by
  constructor
  · intro h
    match bytes with
    | [] => simp [decode] at h
    | b0 :: tail =>
      rcases decode_cons_cases m b0 tail with ⟨-, hdecode⟩ | ⟨j, hkind, hdecode | ⟨rest', rfl, hdecode⟩⟩
      · simp [hdecode] at h
      · simp [hdecode] at h
      · obtain ⟨rfl, rfl⟩ := Prod.mk.inj (Except.ok.inj (hdecode.symm.trans h))
        exact ⟨b0, rfl, hkind⟩
  · rintro ⟨b0, rfl, hkind⟩
    obtain ⟨j, hdecode, hcode, hops⟩ := decode_operands hkind rfl rest
    rw [hdecode, eq_of_code_of_operandBytes hcode hops]

/-! ## The statements -/

/-- The encoder answers an opcode byte of the instruction's kind and its operand bytes (R160, R164). -/
theorem encodeWith_eq_some {m : OpcodeMap} {i : Instr} {bytes : List Byte} (h : encodeWith m i = some bytes) :
    ∃ b0, bytes = b0 :: i.operandBytes ∧ m.kindOf b0 = some i.code := by
  obtain ⟨b0, hfind, rfl⟩ := Option.map_eq_some_iff.mp h
  have hkind := List.find?_some hfind
  exact ⟨b0, rfl, beq_iff_eq.mp hkind⟩

/-- Settles O2: the encoder's bytes are ones on which the decoder answers the instruction. -/
theorem decodeUndoesEncode : Obligations.DecodeUndoesEncode := by
  intro m i bytes rest h
  obtain ⟨b0, rfl, hkind⟩ := encodeWith_eq_some h
  exact decode_eq_ok_iff.mpr ⟨b0, rfl, hkind⟩

/-- Settles O3: the decoded bytes are the instruction's own, and its opcode byte has the length of its kind. -/
theorem decodedBytesAreTheEncoding : Obligations.DecodedBytesAreTheEncoding := by
  intro m i bytes rest h
  obtain ⟨b0, hbytes, hkind⟩ := decode_eq_ok_iff.mp h
  have hle := operandBytes_length_le i
  refine ⟨b0, hbytes, hkind, ?_, ?_⟩
  · simp [opcodeLength, hkind]
  · rw [Instr.length]
    omega

/-- Settles O1: the decoder evaluated on each word. -/
theorem refMapWordsDecode : Obligations.RefMapWordsDecode := by
  unfold Obligations.RefMapWordsDecode
  decide

/-- Settles O4: under REF_MAP a byte is its own kind, so the unknown bytes are those of no kind. -/
theorem unassignedBytesOfRefMap : Obligations.UnassignedBytesOfRefMap := by
  intro b rest
  exact decode_eq_unknownOpcode_iff.trans (kindLength_eq_none_iff b)

end Sys2Proof.Laws
end

section
/-! SUPPORT. The core-cycle and the CPU-cycle (40_cycle.md): what each check of a core-cycle leads to, what a fetch
answers, and which core-cycles a CPU-cycle and a step run. -/

namespace Sys2Proof.Machine

open Sys2Proof

/-! ## The checks of a core-cycle -/

section
variable {s : State} {id : CoreId}

/-- The breakpoint stop: an unrecorded global breakpoint at PC, on a CPU that is not paused (R205, D14). -/
theorem State.stopsHere_iff : s.stopsHere = true ↔
    s.me.pc ∈ s.breakpoints ∧ s.me.currentBreakpoint ≠ some s.me.pc ∧ (s.cpu s.self.cpu).paused = false := by
  simp [State.stopsHere, and_assoc]

/-- An interrupt is taken by a core with interrupts on and outside a handler (R207, R480). -/
theorem State.takes_eq_some_iff {i : Irq} : s.takes = some i ↔
    s.me.ie = true ∧ s.me.inHandler = false ∧ s.selectIrq s.self = some i := by
  simp [State.takes, and_assoc]

theorem State.takes_eq_none_iff : s.takes = none ↔
    s.me.ie = false ∨ s.me.inHandler = true ∨ s.selectIrq s.self = none := by
  cases hie : s.me.ie <;> cases hin : s.me.inHandler <;> simp [State.takes, hie, hin]

theorem coreCycle_of_halted (h : (s.core id).halted = true) : coreCycle id s = .next s := if_pos h

theorem coreCycle_of_stopsHere (h : (s.core id).halted = false) (hstop : (s.focus id).stopsHere = true) :
    coreCycle id s = .next (s.focus id).recordBreakpoint := by
  simp [coreCycle, h, hstop]

theorem coreCycle_of_not_stopsHere (h : (s.core id).halted = false) (hstop : (s.focus id).stopsHere = false) :
    coreCycle id s = interruptOrExecute (s.focus id).passBreakpoint := by
  simp [coreCycle, h, hstop]

theorem interruptOrExecute_of_takes {i : Irq} (h : s.takes = some i) : interruptOrExecute s = interruptEntry i s := by
  simp [interruptOrExecute, h]

theorem interruptOrExecute_of_takes_none (h : s.takes = none) : interruptOrExecute s = fetchExecute s := by
  simp [interruptOrExecute, h]

/-- A breakpoint that is not recorded is not passed by clearing a record (R206). -/
theorem State.passBreakpoint_of_unrecorded (h : s.me.currentBreakpoint ≠ some s.me.pc) : s.passBreakpoint = s :=
  if_neg fun k => h k.1

/-- The recorded breakpoint at PC is passed by clearing the record (R206, D13). -/
theorem State.passBreakpoint_of_recorded (h : s.me.currentBreakpoint = some s.me.pc) (hpc : s.me.pc ∈ s.breakpoints) :
    s.passBreakpoint = s.updMe fun m => { m with currentBreakpoint := none } :=
  if_pos ⟨h, hpc⟩

/-- A running core with no global breakpoint at PC, or with an unrecorded one that a pause lets pass, goes on as it
stands to its interrupt check. -/
theorem coreCycle_of_passes (h : (s.core id).halted = false)
    (hpass : (s.core id).pc ∉ s.breakpoints ∨
      ((s.cpu id.cpu).paused = true ∧ (s.core id).currentBreakpoint ≠ some (s.core id).pc)) :
    coreCycle id s = interruptOrExecute (s.focus id) := by
  have hstop : (s.focus id).stopsHere = false := by
    rw [← Bool.not_eq_true, State.stopsHere_iff]
    rintro ⟨hpc, -, hrun⟩
    rcases hpass with hno | ⟨hpaused, -⟩
    · exact hno hpc
    · exact Bool.false_ne_true (hrun.symm.trans hpaused)
  rw [coreCycle_of_not_stopsHere h hstop]
  rcases hpass with hno | ⟨-, hrecord⟩
  · rw [State.passBreakpoint_of_not_mem _ hno]
  · rw [State.passBreakpoint_of_unrecorded (s := s.focus id) hrecord]

end

/-- Settles O48: one equation of `coreCycle` per check, and what a breakpoint stop does is `recordBreakpoint_spec`. -/
theorem coreCycleChecksInOrder : Obligations.CoreCycleChecksInOrder := by
  intro s id m passes
  refine ⟨coreCycle_of_halted, ?stop, ?interrupt, ?execute⟩
  case stop =>
    intro hrun hpc hrecord hpaused hcore
    obtain ⟨hme, hothers, ⟨-, hmem, -, -, hcaches, hic, hevents, -⟩, hcpus⟩ :=
      (s.focus id).recordBreakpoint_spec hcore
    exact ⟨_, coreCycle_of_stopsHere hrun (State.stopsHere_iff.mpr ⟨hpc, hrecord, hpaused⟩), hme,
      (hcpus id.cpu).2.trans (if_pos rfl), hmem, hic, hevents, hcaches, hothers⟩
  case interrupt =>
    intro hrun hpass hie hin i hselect
    rw [coreCycle_of_passes hrun hpass]
    exact interruptOrExecute_of_takes (State.takes_eq_some_iff.mpr ⟨hie, hin, hselect⟩)
  case execute =>
    intro hrun hpass hnone
    rw [coreCycle_of_passes hrun hpass]
    exact interruptOrExecute_of_takes_none (State.takes_eq_none_iff.mpr hnone)

/-- Settles O49: the core does not stop at the breakpoint it has recorded, and passing it clears the record. -/
theorem recordedBreakpointIsPassed : Obligations.RecordedBreakpointIsPassed := by
  intro s id hcore hrun hpc hrecord
  have hstop : (s.focus id).stopsHere = false := by
    rw [← Bool.not_eq_true, State.stopsHere_iff]
    rintro ⟨-, hunrecorded, -⟩
    exact hunrecorded hrecord
  have hclear := State.passBreakpoint_of_recorded (s := s.focus id) hrecord hpc
  have hu : (s.focus id).passBreakpoint.core id = { s.core id with currentBreakpoint := none } := by
    rw [hclear]
    exact (s.focus id).me_updMe _ hcore
  refine ⟨(s.focus id).passBreakpoint, hu, ?_, coreCycle_of_not_stopsHere hrun hstop⟩
  rw [hu, hclear]
  exact (s.focus id).updMe_eq_const _

/-! ## The fetch -/

section
variable {s : State}

/-- The opcode fetch counts the core-cycle and loads IR (R208). -/
theorem State.me_fetchOpcode (h : s.hasCore s.self) : s.fetchOpcode.me =
    { s.me with ir := (s.memRead s.me.pc).1, cycleCount := s.me.cycleCount + 1 } := by
  rw [s.fetchOpcode_spec h]
  exact State.me_updMe _ _ (by rwa [s.memRead_self, s.hasCore_memRead])

theorem fetchExecute_of_ok {i : Instr} (h : s.fetch.1 = .ok i) : fetchExecute s = exec i s.fetch.2 := by
  simp [fetchExecute, h]

theorem fetchExecute_of_error {e : DecodeError} (h : s.fetch.1 = .error e) :
    fetchExecute s = .next s.fetch.2.unknownOpcode := by
  simp [fetchExecute, h]

theorem State.memReadBytes_length (s : State) (n : Nat) (a : Word) : (s.memReadBytes n a).1.length = n := by
  induction n generalizing s a with
  | zero => rfl
  | succ n ih => exact congrArg (· + 1) (ih _ _)

/-- An opcode byte of no kind is fetched alone, and the fetch answers no instruction (R160, R210). -/
theorem State.fetch_of_unknown
    (h : (s.cfg.opcodeMap.kindOf s.fetchOpcode.me.ir).bind kindLength = none) :
    s.fetch = (.error (.unknownOpcode s.fetchOpcode.me.ir), s.fetchOpcode) := by
  have halone : s.fetchOpcode.fetchOperands = ([], s.fetchOpcode) := by
    rw [State.fetchOperands, opcodeLength, s.fetchOpcode_cfg, h]
    rfl
  simp only [State.fetch, halone, Laws.decode_eq_unknownOpcode_iff.mpr h]
  rfl

/-- Bytes after the opcode byte that decode to an instruction with none left over are the ones the fetch reads (R160,
R163). -/
theorem State.fetch_of_decode {n : Nat} {i : Instr}
    (h : decode s.cfg.opcodeMap
      (s.fetchOpcode.me.ir :: (s.fetchOpcode.memReadBytes n (s.fetchOpcode.me.pc + 1)).1) = .ok (i, [])) :
    s.fetch = (.ok i, (s.fetchOpcode.memReadBytes n (s.fetchOpcode.me.pc + 1)).2) := by
  obtain ⟨b0, hbytes, hkind⟩ := Laws.decode_eq_ok_iff.mp h
  obtain ⟨rfl, hops⟩ := List.cons.inj hbytes
  have hn : opcodeLength s.cfg.opcodeMap s.fetchOpcode.me.ir - 1 = n := by
    have hlength := congrArg List.length hops
    rw [State.memReadBytes_length, List.append_nil] at hlength
    simp [opcodeLength, hkind, Instr.length, hlength]
  have hoperands : s.fetchOpcode.fetchOperands = s.fetchOpcode.memReadBytes n (s.fetchOpcode.me.pc + 1) := by
    rw [State.fetchOperands, s.fetchOpcode_cfg, hn]
  simp only [State.fetch, hoperands, h]
  rfl

end

@[simp] theorem State.hasCore_fetchOpcode (s : State) (id : CoreId) : s.fetchOpcode.hasCore id ↔ s.hasCore id := by
  simp only [State.fetchOpcode, State.hasCore_updMe, State.hasCore_memRead]

/-- The fetch of an opcode leaves the CPUs' own flags. -/
theorem State.cpuFlagsKept_fetchOpcode (s : State) : CpuFlagsKept s s.fetchOpcode := by
  intro c
  simp only [State.fetchOpcode, State.memRead, State.cpu_updMe_halted, State.cpu_updMe_paused,
    State.cpu_halted_bare (State.busRead_bare ..), State.cpu_paused_bare (State.busRead_bare ..), and_self]

/-- The halt on an unknown opcode: the executing core halts past the byte, and the error is logged (R210, C1). -/
theorem State.unknownOpcode_spec (s : State) (h : s.hasCore s.self) :
    s.unknownOpcode.me = { s.me with halted := true, pc := s.me.pc + 1 } ∧ CpuFlagsKept s s.unknownOpcode ∧
      s.unknownOpcode.events = s.events ++ [.unknownOpcode s.self.cpu s.self.core s.me.pc s.me.ir] :=
  ⟨s.me_updMe _ h, cpuFlagsKept_modifyCore s s.self _, rfl⟩

/-- The fetch of an unknown opcode, and the halt on it (R208, R210, R461). -/
theorem fetchExecute_of_unknown {s : State} (hcore : s.hasCore s.self)
    (h : (s.cfg.opcodeMap.kindOf (s.memRead s.me.pc).1).bind kindLength = none) :
    ∃ t, fetchExecute s = .next t ∧
      t.core s.self = { s.me with
        halted := true, pc := s.me.pc + 1, ir := (s.memRead s.me.pc).1, cycleCount := s.me.cycleCount + 1 } ∧
      t.events = s.events ++ [.unknownOpcode s.self.cpu s.self.core s.me.pc (s.memRead s.me.pc).1] ∧
      t.mem = s.mem ∧ t.ic = s.ic ∧ CoresKeptBut s t [s.self] ∧ CpuFlagsKept s t := by
  have hme := State.me_fetchOpcode hcore
  have hfetch := State.fetch_of_unknown (s := s) (by rwa [hme])
  obtain ⟨-, hmem, hic, hevents⟩ := s.fetch_kept
  have hown := KeepsFlags.fetch s
  have hrun := fetchExecute_of_error (congrArg Prod.fst hfetch)
  simp only [hfetch] at hmem hic hevents hown hrun
  obtain ⟨hhalt, hflags, hlog⟩ := s.fetchOpcode.unknownOpcode_spec (by simpa [hown.self] using hcore)
  refine ⟨_, hrun, ?core, ?events, hmem, hic, ?others, ?flags⟩
  case core => rw [← hown.unknownOpcode.self, ← State.me, hhalt, hme]
  case events => rw [hlog, hevents, hown.self, hme]
  case others => exact fun other hne => hown.unknownOpcode.others other fun he => hne (List.mem_singleton.mpr he)
  case flags =>
    intro c
    obtain ⟨hhalted, hpaused⟩ := s.cpuFlagsKept_fetchOpcode c
    exact ⟨(hflags c).1.trans hhalted, (hflags c).2.trans hpaused⟩

/-- Settles O50: the core-cycle comes to its fetch, which reads the unknown byte alone. -/
theorem unknownOpcodeHaltsTheCore : Obligations.UnknownOpcodeHaltsTheCore := by
  intro s id hcore hrun hpc htakes byte hdecode
  rw [coreCycle_of_passes hrun (.inl hpc), interruptOrExecute_of_takes_none htakes]
  exact fetchExecute_of_unknown (s := s.focus id) hcore (Laws.decode_eq_unknownOpcode_iff.mp hdecode)

/-! ## The CPU-cycle -/

theorem thenRun_assoc (r : Result) (f g : State → Result) :
    thenRun (thenRun r f) g = thenRun r fun s => thenRun (f s) g := by
  cases r <;> rfl

/-- The core-cycles of some cores are a fold over them, which goes on from a next state only (R200, R212). -/
theorem foldl_coreCycle (c : Nat) (ks : List Nat) (r : Result) :
    ks.foldl (fun r k => thenRun r (coreCycle ⟨c, k⟩)) r = thenRun r (coreCycles c ks) := by
  induction ks generalizing r with
  | nil => cases r <;> rfl
  | cons k ks ih => rw [List.foldl_cons, ih, thenRun_assoc]; rfl

theorem CpuState.mayRun_iff (p : CpuState) (ignorePause : Bool) :
    p.mayRun ignorePause = true ↔ p.halted = false ∧ (p.paused = false ∨ ignorePause = true) := by
  simp [CpuState.mayRun]

theorem cpuCycle_of_mayRun {c : Nat} {ignorePause : Bool} {s : State} (h : (s.cpu c).mayRun ignorePause = true) :
    cpuCycle c ignorePause s = coreCycles c (List.range (s.cpu c).cores.length) s := if_pos h

theorem cpuCycle_of_not_mayRun {c : Nat} {ignorePause : Bool} {s : State} (h : ¬ (s.cpu c).mayRun ignorePause = true) :
    cpuCycle c ignorePause s = .next s := if_neg h

/-- Settles O53: the fold over the cores is `coreCycles`, behind the check of the CPU's flags. -/
theorem cpuCycleRunsCoresInOrder : Obligations.CpuCycleRunsCoresInOrder := by
  intro c ignorePause s
  rw [foldl_coreCycle]
  split
  case isTrue hhalted => exact cpuCycle_of_not_mayRun (by simp [CpuState.mayRun_iff, hhalted])
  case isFalse hrun =>
    split
    case isTrue hpaused => exact cpuCycle_of_not_mayRun (by simp [CpuState.mayRun_iff, hpaused])
    case isFalse hgo => exact cpuCycle_of_mayRun (by simp_all [CpuState.mayRun_iff, imp_iff_not_or])

/-! ## The step -/

/-- The schedule is not part of what a core-cycle works on: taking the next action off it leaves the rest. -/
theorem State.nextAction_kept (s : State) : s.nextAction.2.cfg = s.cfg ∧ s.nextAction.2.cpus = s.cpus ∧
    s.nextAction.2.breakpoints = s.breakpoints := by
  unfold State.nextAction
  split <;> exact ⟨rfl, rfl, rfl⟩

/-- A core that comes to its fetch executes the instruction that the bytes it fetches decode to (R163, R208). -/
theorem fetchExecute_of_decode {s : State} {n : Nat} {i : Instr} (hcore : s.hasCore s.self)
    (h : decode s.cfg.opcodeMap (s.fetchOpcode.me.ir :: (s.fetchOpcode.memReadBytes n (s.me.pc + 1)).1) = .ok (i, [])) :
    fetchExecute s = exec i (s.fetchOpcode.memReadBytes n (s.me.pc + 1)).2 := by
  have hpc : s.fetchOpcode.me.pc = s.me.pc := by rw [State.me_fetchOpcode hcore]
  rw [← hpc] at h ⊢
  have hfetch := State.fetch_of_decode h
  rw [fetchExecute_of_ok (congrArg Prod.fst hfetch), hfetch]

/-- The core-cycles of a CPU with a core: core 0 first (R200). -/
theorem coreCycles_range_of_pos (c : Nat) {n : Nat} (h : 0 < n) (s : State) :
    coreCycles c (List.range n) s = thenRun (coreCycle ⟨c, 0⟩ s) (coreCycles c ((List.range n).drop 1)) := by
  obtain ⟨k, rfl⟩ := Nat.exists_eq_add_one.mpr h
  rw [List.range_succ_eq_map]
  rfl

/-- Settles O51: with no check that stops it, core 0 comes to its fetch first, and the fetch reads the decoded bytes. -/
theorem stepRunsTheDecodedInstruction : Obligations.StepRunsTheDecodedInstruction := by
  intro s c n i haction hcore hcpuRun hcpuGo hrun hpc u htakes opcode operands hdecode
  obtain ⟨hcfg, hcpus, hbreak⟩ := s.nextAction_kept
  have hcpu (d : Nat) : s.nextAction.2.cpu d = s.cpu d := by rw [State.cpu, State.cpu, hcpus]
  have hsame (id : CoreId) : s.nextAction.2.core id = s.core id := by rw [State.core, State.core, hcpu]
  have hcycle : coreCycle ⟨c, 0⟩ s.nextAction.2 = exec i operands.2 := by
    have hme : u.me = s.core ⟨c, 0⟩ := hsame _
    have hcoreU : u.hasCore u.self := by simpa [u, State.hasCore, hcpu] using hcore
    have hfetched := fetchExecute_of_decode (n := n) (i := i) hcoreU
    rw [hme, show u.cfg = s.cfg from hcfg] at hfetched
    rw [coreCycle_of_passes (by rwa [hsame]) (.inl (by rwa [hsame, hbreak])), interruptOrExecute_of_takes_none htakes]
    exact hfetched hdecode
  have hmayRun : (s.nextAction.2.cpu c).mayRun false = true := by
    rw [hcpu, CpuState.mayRun_iff]
    exact ⟨hcpuRun, .inl hcpuGo⟩
  rw [step, haction, hostAction, cpuCycle_of_mayRun hmayRun, hcpu, coreCycles_range_of_pos c (Nat.zero_lt_of_lt hcore),
    hcycle]

end Sys2Proof.Machine
end

section
/-! SUPPORT. The count of core-cycles: an instruction counts nothing, since `CountsKept` goes on through every operation
an instruction is made of, and so only the fetch counts. -/

namespace Sys2Proof.Machine

open Sys2Proof

/-- Every core has counted as many core-cycles as before. -/
def CountsKept (s t : State) : Prop := ∀ id, (t.core id).cycleCount = (s.core id).cycleCount

theorem CountsKept.refl (s : State) : CountsKept s s := fun _ => rfl

section
variable {s t u : State}

/-- What keeps the CPUs but for their caches counts nothing, as every bus access does. -/
theorem CountsKept.ofBare (h : CountsKept s t) (hb : u.bare = t.bare) : CountsKept s u := fun id => by
  rw [State.core_bare hb, h id]

theorem CountsKept.modifyCore (h : CountsKept s t) (id : CoreId) {f : CoreState → CoreState}
    (hf : ∀ m, (f m).cycleCount = m.cycleCount) : CountsKept s (t.modifyCore id f) := fun other =>
  (t.core_modifyCore_proj id other f CoreState.cycleCount hf).trans (h other)

theorem CountsKept.updMe (h : CountsKept s t) {f : CoreState → CoreState}
    (hf : ∀ m, (f m).cycleCount = m.cycleCount) : CountsKept s (t.updMe f) := h.modifyCore t.self hf

/-- A change of a CPU's own flags. -/
theorem CountsKept.cpuFlags (h : CountsKept s t) (c : Nat) {f : CpuState → CpuState}
    (hf : ∀ p, (f p).cores = p.cores) : CountsKept s (t.modifyCpu c f) := fun id => by
  rw [t.core_modifyCpu c id f hf, h id]

theorem CountsKept.setCoreHalted (h : CountsKept s t) (id : CoreId) (b : Bool) :
    CountsKept s (t.modifyCore id fun m => m.setHalted b) := h.modifyCore id fun _ => rfl

theorem CountsKept.setCpuHalted (h : CountsKept s t) (c : Nat) (b : Bool) :
    CountsKept s (t.modifyCpu c fun p => p.setHalted b) := h.cpuFlags c fun _ => rfl

theorem CountsKept.memRead (h : CountsKept s t) (a : Word) : CountsKept s (t.memRead a).2 :=
  h.ofBare (t.busRead_bare ..)

theorem CountsKept.memWrite (h : CountsKept s t) (a : Word) (v : Byte) : CountsKept s (t.memWrite a v) :=
  h.ofBare (t.busWrite_bare ..)

theorem CountsKept.push8 (h : CountsKept s t) (v : Byte) : CountsKept s (t.push8 v) :=
  (h.memWrite _ v).updMe fun _ => rfl

theorem CountsKept.pop8 (h : CountsKept s t) : CountsKept s t.pop8.2 :=
  have hsp : CountsKept s t.incSp := h.updMe fun _ => rfl
  hsp.memRead _

theorem CountsKept.advanceUnless (h : CountsKept s t) (own : Prop) [Decidable own] :
    CountsKept s (t.advanceUnless own) := by
  unfold State.advanceUnless
  split
  · exact h
  · exact h.updMe fun _ => rfl

theorem CountsKept.setPcIf (h : CountsKept s t) (gate : Bool) (id : CoreId) (w : Word) :
    CountsKept s (t.setPcIf gate id w) := by
  unfold State.setPcIf
  split
  · exact h.modifyCore id fun _ => rfl
  · exact h

theorem CountsKept.recordBreakpoint (h : CountsKept s t) : CountsKept s t.recordBreakpoint :=
  have hrecord := h.updMe (f := fun m => { m with currentBreakpoint := some m.pc }) fun _ => rfl
  hrecord.cpuFlags _ fun _ => rfl

/-- An answer that an operation which counts nothing leads to. -/
theorem countsKept_of_next (h : Host.Outcome.next u = (.next t : Result)) (hu : CountsKept s u) : CountsKept s t := by
  injection h with h; subst h; exact hu

theorem execSyscall_countsKept {imm : Byte} (h : execSyscall imm s = .next t) : CountsKept s t := by
  unfold execSyscall at h
  split at h
  · split at h
    · have hclear : CountsKept s s.clearProgram.clearCaches :=
        (CountsKept.refl s).ofBare (s.clearProgram.bare_map _ fun p => p.bare_cache [])
      exact countsKept_of_next h (hclear.updMe fun _ => rfl)
    · exact countsKept_of_next h ((CountsKept.refl s).updMe fun _ => rfl)
  · split at h
    · have haccess := (CountsKept.refl s).ofBare
        (s.drawn.access_kept (Config.serviceAnswer s.oracleDraws imm).accesses).1
      exact countsKept_of_next h (haccess.updMe fun _ => rfl)
    · cases h

theorem execBreakpoint_countsKept (h : execBreakpoint s = .next t) : CountsKept s t := by
  unfold execBreakpoint at h
  split at h
  · exact countsKept_of_next h ((CountsKept.refl s).updMe fun _ => rfl)
  · exact countsKept_of_next h (CountsKept.refl s).recordBreakpoint

/-- Taking a conditional jump or going on past it writes PC only. -/
theorem jumpIf_countsKept {cond : CoreState → Bool} {target : Word} (h : jumpIf cond target s = .next t) :
    CountsKept s t :=
  countsKept_of_next h ((CountsKept.refl s).updMe fun m => by split <;> rfl)

theorem withTarget_countsKept {kind : TargetKind} {n : Nat} {run : Nat → State}
    (h : withTarget kind n run s = .next t) (hrun : ∀ k, CountsKept s (run k)) : CountsKept s t := by
  obtain ⟨-, rfl⟩ := withTarget_next h
  exact hrun _

/-- No instruction counts a core-cycle. -/
theorem exec_countsKept {i : Instr} (h : exec i s = .next t) : CountsKept s t := by
  have same := CountsKept.refl s
  cases i
  case syscall => exact execSyscall_countsKept h
  case breakpoint => exact execBreakpoint_countsKept h
  case call => exact countsKept_of_next h (((same.push8 _).push8 _).updMe fun _ => rfl)
  case ret => exact countsKept_of_next h (same.pop8.pop8.updMe fun _ => rfl)
  case iret => exact countsKept_of_next h (same.pop8.pop8.pop8.updMe fun _ => rfl)
  case jz | jnz | jc | jnc => exact jumpIf_countsKept h
  case coreStatus =>
    exact withTarget_countsKept (show execCoreStatus s = .next t from h) fun _ => same.updMe fun _ => rfl
  case coreStart =>
    exact withTarget_countsKept (show execCoreStart s = .next t from h) fun _ =>
      (same.setCoreHalted _ false).advanceUnless _
  case coreHalt =>
    exact withTarget_countsKept (show execCoreHalt s = .next t from h) fun _ =>
      (same.setCoreHalted _ true).advanceUnless _
  case coreSetPc =>
    exact withTarget_countsKept (show execCoreSetPc s = .next t from h) fun _ =>
      (same.setPcIf _ _ _).updMe fun _ => rfl
  case cpuStatus =>
    exact withTarget_countsKept (show execCpuStatus s = .next t from h) fun _ => same.updMe fun _ => rfl
  case cpuStart =>
    exact withTarget_countsKept (show execCpuStart s = .next t from h) fun _ =>
      (same.setCpuHalted _ false).advanceUnless _
  case cpuHalt =>
    exact withTarget_countsKept (show execCpuHalt s = .next t from h) fun _ =>
      (same.setCpuHalted _ true).advanceUnless _
  case cpuSetPc =>
    exact withTarget_countsKept (show execCpuSetPc s = .next t from h) fun _ =>
      (same.setPcIf _ _ _).updMe fun _ => rfl
  case movAMem | movBMem | movCMem | movDMem => exact countsKept_of_next h ((same.memRead _).updMe fun _ => rfl)
  case movMemA | movMemB | movMemC | movMemD => exact countsKept_of_next h ((same.memWrite _ _).updMe fun _ => rfl)
  case pushA | pushB | pushC | pushD => exact countsKept_of_next h ((same.push8 _).updMe fun _ => rfl)
  case popA | popB | popC | popD => exact countsKept_of_next h (same.pop8.updMe fun _ => rfl)
  -- The other instructions write registers, flags and PC of the executing core alone.
  all_goals exact countsKept_of_next h (same.updMe fun _ => rfl)

theorem interruptEntry_countsKept {i : Irq} (h : interruptEntry i s = .next t) : CountsKept s t := by
  have henter : CountsKept s (s.enterInterrupt i) := by
    have hmasked := (CountsKept.refl s).updMe (f := fun m => { m with ie := false, inHandler := true }) fun _ => rfl
    have hpushed := ((hmasked.memWrite s.me.sp s.me.flags).memWrite (s.me.sp - 1) (hiByte s.me.pc)).memWrite
      (s.me.sp - 2) (loByte s.me.pc)
    exact (hpushed.updMe (f := fun m => { m with sp := s.me.sp - 3 }) fun _ => rfl).ofBare rfl
  simp only [interruptEntry] at h
  split at h
  · cases h
  · exact countsKept_of_next h (henter.updMe fun _ => rfl)

theorem CountsKept.unknownOpcode (h : CountsKept s t) : CountsKept s t.unknownOpcode :=
  have hhalt := h.updMe (f := fun m => ({ m with halted := true } : CoreState).advance 1) fun _ => rfl
  hhalt.ofBare rfl

theorem CountsKept.passBreakpoint (s : State) : CountsKept s s.passBreakpoint := by
  unfold State.passBreakpoint
  split
  · exact (CountsKept.refl s).updMe fun _ => rfl
  · exact .refl s

/-- A core-cycle that fetches counts itself once, whatever it executes (R208, D40). -/
theorem fetchExecute_cycleCount (hcore : s.hasCore s.self) (h : fetchExecute s = .next t) :
    (t.core s.self).cycleCount = s.me.cycleCount + 1 := by
  have hexec : CountsKept s.fetch.2 t := by
    unfold fetchExecute at h
    split at h
    · exact exec_countsKept h
    · exact countsKept_of_next h (CountsKept.refl _).unknownOpcode
  have hself : s.fetch.2.self = s.self := (KeepsFlags.fetch s).self
  obtain ⟨hfetch, -⟩ := s.fetch_kept
  calc (t.core s.self).cycleCount
      = s.fetch.2.me.cycleCount := by rw [hexec s.self, State.me, hself]
    _ = s.me.cycleCount + 1 := by rw [hfetch, State.me_fetchOpcode hcore]

/-- Steps 5 and 6 of a core-cycle count it unless an interrupt is entered (R207, D40). -/
theorem interruptOrExecute_cycleCount (hcore : s.hasCore s.self) (h : interruptOrExecute s = .next t) :
    (t.core s.self).cycleCount = s.me.cycleCount + if s.takes ≠ none then 0 else 1 := by
  cases htakes : s.takes with
  | none =>
    rw [interruptOrExecute_of_takes_none htakes] at h
    simpa using fetchExecute_cycleCount hcore h
  | some i =>
    rw [interruptOrExecute_of_takes htakes] at h
    simpa [State.me] using interruptEntry_countsKept h s.self

end

@[simp] theorem State.hasCore_passBreakpoint (s : State) (id : CoreId) :
    s.passBreakpoint.hasCore id ↔ s.hasCore id := by
  unfold State.passBreakpoint
  split
  · exact s.hasCore_updMe _ id
  · rfl

/-- Clearing a breakpoint record does not bear on the interrupt check. -/
theorem State.takes_passBreakpoint (s : State) (h : s.hasCore s.self) : s.passBreakpoint.takes = s.takes := by
  unfold State.passBreakpoint
  split
  · simp only [State.takes, s.me_updMe _ h, State.updMe_self]
    rfl
  · rfl

/-- Settles O56: only the fetch counts, and a core-cycle comes to it past its three other checks. -/
theorem cycleCountCountsFetches : Obligations.CycleCountCountsFetches := by
  intro s t id hcore h
  cases hrun : (s.core id).halted with
  | true =>
    rw [coreCycle_of_halted hrun] at h
    simpa using countsKept_of_next h (.refl s) id
  | false =>
    cases hstop : (s.focus id).stopsHere with
    | true =>
      rw [coreCycle_of_stopsHere hrun hstop] at h
      simpa [hstop] using countsKept_of_next h (CountsKept.refl (s.focus id)).recordBreakpoint id
    | false =>
      rw [coreCycle_of_not_stopsHere hrun hstop] at h
      have hpass := CountsKept.passBreakpoint (s.focus id)
      have hself : (s.focus id).passBreakpoint.self = id := (KeepsFlags.passBreakpoint (s.focus id)).self
      have hcount := interruptOrExecute_cycleCount (by rwa [hself, State.hasCore_passBreakpoint]) h
      rw [State.takes_passBreakpoint _ hcore, State.me, hself, hpass id] at hcount
      simpa [hrun, hstop] using hcount

end Sys2Proof.Machine
end

section
/-! SUPPORT. The ALU instructions (41_alu.md section 2): every form is one ALU function over the executing core, then
setFlags (`AluForm`), and each register form of REF_MAP is such a form (R254-R274). -/

namespace Sys2Proof.Machine

open Sys2Proof

/-! ## The shape of an ALU instruction -/

/-- REF_MAP gives an instruction the opcode byte of its kind and reads it back (R162, R166). -/
theorem encodedAs_code (i : Instr) : EncodedAs i i.code i.length :=
  ⟨rfl, rfl, Laws.decode_eq_ok_iff.mpr ⟨i.code, by rw [List.append_nil], rfl⟩⟩

/-- The change an ALU instruction makes to the executing core: `f` to the destination, if there is one, and to FLAGS,
then PC advanced by the length (R253). -/
def aluChange (dst : Option Reg) (f : CoreState → AluResult) (len : Nat) (m : CoreState) : CoreState :=
  (dst.elim (m.flagAlu (f m)) fun r => m.writeAlu r (f m)).advance len

/-- The instruction `i` is an ALU instruction of opcode byte `code` and length `len`: it means `f` of the executing
core, written to `dst` (R253). -/
structure AluForm (i : Instr) (code : Byte) (len : Nat) (dst : Option Reg) (f : CoreState → AluResult) : Prop where
  /-- The table's own byte. -/
  code_eq : i.code = code
  /-- The opcode byte and the operand bytes. -/
  length_eq : i.length = len
  /-- The meaning. -/
  exec_eq : ∀ s, exec i s = .next (s.updMe (aluChange dst f len))

/-- The change of an ALU instruction is what `AluEffect` says, with a destination and without one. -/
theorem aluEffect_aluChange {s : State} {f : CoreState → AluResult} {v : Byte} {c : Bool} (dst : Option Reg)
    (len : Nat) (h : s.hasCore s.self) (hf : f s.me = aluResult v c) :
    AluEffect s (s.updMe (aluChange dst f len)) dst v c len := by
  cases dst with
  | none => exact aluEffect_flags s f len v c h hf
  | some r => exact aluEffect_write s f r len v c h hf

/-- What an ALU form completes with, given the answer of its ALU function. -/
theorem AluForm.completes {i : Instr} {code : Byte} {len : Nat} {dst : Option Reg} {f : CoreState → AluResult}
    (form : AluForm i code len dst f) {s : State} (h : s.hasCore s.self) {v : Byte} {c : Bool}
    (hf : f s.me = aluResult v c) :
    EncodedAs i code len ∧ ∃ t, exec i s = .next t ∧ AluEffect s t dst v c len := by
  obtain ⟨rfl, rfl, hexec⟩ := form
  exact ⟨encodedAs_code i, _, hexec s, aluEffect_aluChange dst i.length h hf⟩

/-! ## The forms REG_REG (R254-R266)

One case for each pair of registers: there the opcode byte, the length and the meaning are the ones written down. -/

section
variable (dst src : Reg)

theorem aluForm_addRegReg : AluForm (.addRegReg dst src) (0x40#8 ||| (regCode dst <<< 2) ||| regCode src) 1 (some dst)
    fun m => aluAdd (m.reg dst) (m.reg src) := by
  cases dst <;> cases src <;> exact ⟨rfl, rfl, fun _ => rfl⟩

theorem aluForm_subRegReg : AluForm (.subRegReg dst src) (0x50#8 ||| (regCode dst <<< 2) ||| regCode src) 1 (some dst)
    fun m => aluSub (m.reg dst) (m.reg src) := by
  cases dst <;> cases src <;> exact ⟨rfl, rfl, fun _ => rfl⟩

theorem aluForm_andRegReg : AluForm (.andRegReg dst src) (0x60#8 ||| (regCode dst <<< 2) ||| regCode src) 1 (some dst)
    fun m => aluAnd (m.reg dst) (m.reg src) := by
  cases dst <;> cases src <;> exact ⟨rfl, rfl, fun _ => rfl⟩

theorem aluForm_orRegReg : AluForm (.orRegReg dst src) (0x70#8 ||| (regCode dst <<< 2) ||| regCode src) 1 (some dst)
    fun m => aluOr (m.reg dst) (m.reg src) := by
  cases dst <;> cases src <;> exact ⟨rfl, rfl, fun _ => rfl⟩

theorem aluForm_xorRegReg : AluForm (.xorRegReg dst src) (0x80#8 ||| (regCode dst <<< 2) ||| regCode src) 1 (some dst)
    fun m => aluXor (m.reg dst) (m.reg src) := by
  cases dst <;> cases src <;> exact ⟨rfl, rfl, fun _ => rfl⟩

theorem aluForm_cmpRegReg : AluForm (.cmpRegReg dst src) (0x90#8 ||| (regCode dst <<< 2) ||| regCode src) 1 none
    fun m => aluSub (m.reg dst) (m.reg src) := by
  cases dst <;> cases src <;> exact ⟨rfl, rfl, fun _ => rfl⟩

theorem aluForm_testRegReg : AluForm (.testRegReg dst src) (0xA0#8 ||| (regCode dst <<< 2) ||| regCode src) 1 none
    fun m => aluAnd (m.reg dst) (m.reg src) := by
  cases dst <;> cases src <;> exact ⟨rfl, rfl, fun _ => rfl⟩

end

/-! ## The forms REG_IMM8 and REG (R255-R274) -/

section
variable (r : Reg) (imm : Byte)

theorem aluForm_addRegImm : AluForm (.addRegImm r imm) (0xB0#8 ||| regCode r) 2 (some r)
    fun m => aluAdd (m.reg r) imm := by
  cases r <;> exact ⟨rfl, rfl, fun _ => rfl⟩

theorem aluForm_subRegImm : AluForm (.subRegImm r imm) (0xB4#8 ||| regCode r) 2 (some r)
    fun m => aluSub (m.reg r) imm := by
  cases r <;> exact ⟨rfl, rfl, fun _ => rfl⟩

theorem aluForm_andRegImm : AluForm (.andRegImm r imm) (0xB8#8 ||| regCode r) 2 (some r)
    fun m => aluAnd (m.reg r) imm := by
  cases r <;> exact ⟨rfl, rfl, fun _ => rfl⟩

theorem aluForm_orRegImm : AluForm (.orRegImm r imm) (0xBC#8 ||| regCode r) 2 (some r)
    fun m => aluOr (m.reg r) imm := by
  cases r <;> exact ⟨rfl, rfl, fun _ => rfl⟩

theorem aluForm_xorRegImm : AluForm (.xorRegImm r imm) (0xC0#8 ||| regCode r) 2 (some r)
    fun m => aluXor (m.reg r) imm := by
  cases r <;> exact ⟨rfl, rfl, fun _ => rfl⟩

theorem aluForm_cmpRegImm : AluForm (.cmpRegImm r imm) (0xC4#8 ||| regCode r) 2 none
    fun m => aluSub (m.reg r) imm := by
  cases r <;> exact ⟨rfl, rfl, fun _ => rfl⟩

theorem aluForm_testRegImm : AluForm (.testRegImm r imm) (0xC8#8 ||| regCode r) 2 none
    fun m => aluAnd (m.reg r) imm := by
  cases r <;> exact ⟨rfl, rfl, fun _ => rfl⟩

theorem aluForm_shlRegImm : AluForm (.shlRegImm r imm) (0xCC#8 ||| regCode r) 2 (some r)
    fun m => aluShl (m.reg r) imm.toNat := by
  cases r <;> exact ⟨rfl, rfl, fun _ => rfl⟩

theorem aluForm_shrRegImm : AluForm (.shrRegImm r imm) (0xD0#8 ||| regCode r) 2 (some r)
    fun m => aluShr (m.reg r) imm.toNat := by
  cases r <;> exact ⟨rfl, rfl, fun _ => rfl⟩

theorem aluForm_rolRegImm : AluForm (.rolRegImm r imm) (0xD4#8 ||| regCode r) 2 (some r)
    fun m => aluRol (m.reg r) imm.toNat m.flagC := by
  cases r <;> exact ⟨rfl, rfl, fun _ => rfl⟩

theorem aluForm_rorRegImm : AluForm (.rorRegImm r imm) (0xD8#8 ||| regCode r) 2 (some r)
    fun m => aluRor (m.reg r) imm.toNat m.flagC := by
  cases r <;> exact ⟨rfl, rfl, fun _ => rfl⟩

theorem aluForm_incReg : AluForm (.incReg r) (0x18#8 ||| regCode r) 1 (some r) fun m => aluInc (m.reg r) := by
  cases r <;> exact ⟨rfl, rfl, fun _ => rfl⟩

theorem aluForm_decReg : AluForm (.decReg r) (0x1C#8 ||| regCode r) 1 (some r) fun m => aluDec (m.reg r) := by
  cases r <;> exact ⟨rfl, rfl, fun _ => rfl⟩

theorem aluForm_notReg : AluForm (.notReg r) (0x20#8 ||| regCode r) 1 (some r) fun m => aluNot (m.reg r) := by
  cases r <;> exact ⟨rfl, rfl, fun _ => rfl⟩

end

/-! ## The arithmetic and the logic

Their ALU functions are written as a result and its carry, so the answer `completes` asks for is the definition. -/

/-- Settles O5: both forms of ADD are ALU forms of `aluAdd`. -/
theorem addWritesSumAndCarry : Obligations.AddWritesSumAndCarry := by
  intro s dst src r imm h
  exact ⟨(aluForm_addRegReg dst src).completes h rfl, (aluForm_addRegImm r imm).completes h rfl⟩

/-- Settles O6: both forms of SUB are ALU forms of `aluSub`. -/
theorem subWritesDifferenceAndBorrow : Obligations.SubWritesDifferenceAndBorrow := by
  intro s dst src r imm h
  exact ⟨(aluForm_subRegReg dst src).completes h rfl, (aluForm_subRegImm r imm).completes h rfl⟩

/-- Settles O7: both forms of AND, OR and XOR are ALU forms of their bitwise function. -/
theorem logicWritesResultAndClearsCarry : Obligations.LogicWritesResultAndClearsCarry := by
  intro s dst src r imm h
  exact ⟨(aluForm_andRegReg dst src).completes h rfl, (aluForm_andRegImm r imm).completes h rfl,
    (aluForm_orRegReg dst src).completes h rfl, (aluForm_orRegImm r imm).completes h rfl,
    (aluForm_xorRegReg dst src).completes h rfl, (aluForm_xorRegImm r imm).completes h rfl⟩

/-- Settles O8: CMP and TEST are ALU forms of SUB's and AND's function without a destination. -/
theorem compareAndTestWriteFlagsOnly : Obligations.CompareAndTestWriteFlagsOnly := by
  intro s dst src r imm h
  exact ⟨(aluForm_cmpRegReg dst src).completes h rfl, (aluForm_cmpRegImm r imm).completes h rfl,
    (aluForm_testRegReg dst src).completes h rfl, (aluForm_testRegImm r imm).completes h rfl⟩

/-- Settles O9: INC, DEC and NOT are ALU forms of functions that answer carry 0. -/
theorem incDecNotClearCarry : Obligations.IncDecNotClearCarry := by
  intro s r h
  exact ⟨(aluForm_incReg r).completes h rfl, (aluForm_decReg r).completes h rfl, (aluForm_notReg r).completes h rfl⟩

end Sys2Proof.Machine
end

section
/-! SUPPORT. The loops of the shifts and the rotates (R249-R252) in closed form, for every count: a shift carries the
last bit out, and a rotate turns the 9-bit pair of carry and value. -/

namespace Sys2Proof.Machine

open Sys2Proof

/-- The loop of R249-R252 is the iterate of its body. -/
theorem iterate_eq (f : Shifting → Shifting) (n : Nat) (p : Shifting) : iterate f n p = f^[n] p := by
  induction n generalizing p with
  | zero => rfl
  | succ n ih => exact ih (f p)

/-- A loop may also be read from its end: the last time round comes after the others. -/
theorem iterate_succ_last (f : Shifting → Shifting) (n : Nat) (p : Shifting) :
    iterate f (n + 1) p = f (iterate f n p) := by
  simp only [iterate_eq, Function.iterate_succ_apply']

/-! ## Shifts -/

theorem iterate_shlOnce_fst (n : Nat) (p : Shifting) : (iterate shlOnce n p).1 = p.1 <<< n := by
  induction n with
  | zero => exact (BitVec.shiftLeft_zero p.1).symm
  | succ n ih => rw [iterate_succ_last, shlOnce, ih, BitVec.shiftLeft_add]

theorem iterate_shrOnce_fst (n : Nat) (p : Shifting) : (iterate shrOnce n p).1 = p.1 >>> n := by
  induction n with
  | zero => exact (BitVec.ushiftRight_zero p.1).symm
  | succ n ih => rw [iterate_succ_last, shrOnce, ih, BitVec.shiftRight_add]

/-- SHL's carry is bit 7 of the value before the last shift, which is bit `8 - n` of the operand (R249, D7). -/
theorem iterate_shlOnce_snd (n : Nat) (v : Byte) :
    (iterate shlOnce n (v, false)).2 = (decide (1 ≤ n ∧ n ≤ 8) && v.getLsbD (8 - n)) := by
  cases n with
  | zero => rfl
  | succ n =>
    have hlast : (iterate shlOnce (n + 1) (v, false)).2 = (v <<< n).getLsbD 7 := by
      rw [iterate_succ_last, shlOnce, iterate_shlOnce_fst]
    have hbit : 8 - (n + 1) = 7 - n := by omega
    have hcount : decide (1 ≤ n + 1 ∧ n + 1 ≤ 8) = !decide (7 < n) := by
      rw [← decide_not, decide_eq_decide]
      omega
    rw [hlast, hbit, hcount, BitVec.getLsbD_shiftLeft, decide_eq_true (by decide : 7 < 8), Bool.true_and]

/-- SHR's carry is bit 0 of the value before the last shift, which is bit `n - 1` of the operand (R250, D7). -/
theorem iterate_shrOnce_snd (n : Nat) (v : Byte) :
    (iterate shrOnce n (v, false)).2 = (decide (1 ≤ n ∧ n ≤ 8) && v.getLsbD (n - 1)) := by
  cases n with
  | zero => rfl
  | succ n =>
    have hlast : (iterate shrOnce (n + 1) (v, false)).2 = v.getLsbD n := by
      rw [iterate_succ_last, shrOnce, iterate_shrOnce_fst, BitVec.getLsbD_ushiftRight, Nat.add_zero]
    rw [hlast, Nat.add_sub_cancel]
    by_cases hn : n < 8
    · simp [Nat.succ_le_of_lt hn]
    · simp [BitVec.getLsbD_of_ge v n (Nat.le_of_not_lt hn)]

theorem aluShl_eq (v : Byte) (n : Nat) :
    aluShl v n = aluResult (v <<< n) (decide (1 ≤ n ∧ n ≤ 8) && v.getLsbD (8 - n)) := by
  rw [aluShl, shiftResult, iterate_shlOnce_fst, iterate_shlOnce_snd]

theorem aluShr_eq (v : Byte) (n : Nat) :
    aluShr v n = aluResult (v >>> n) (decide (1 ≤ n ∧ n ≤ 8) && v.getLsbD (n - 1)) := by
  rw [aluShr, shiftResult, iterate_shrOnce_fst, iterate_shrOnce_snd]

/-- Settles O10: SHL and SHR are ALU forms of loops with that closed form. -/
theorem shiftsKeepTheLastBitOut : Obligations.ShiftsKeepTheLastBitOut := by
  intro s r imm h
  exact ⟨(aluForm_shlRegImm r imm).completes h (aluShl_eq _ _),
    (aluForm_shrRegImm r imm).completes h (aluShr_eq _ _)⟩

/-! ## Rotates -/

/-- The 9-bit pair a rotate turns: the carry is bit 8, the value bits 7:0 (R251, R252). -/
def Shifting.pair (p : Shifting) : BitVec 9 := BitVec.ofBool p.2 ++ p.1

theorem Shifting.getLsbD_pair (p : Shifting) (i : Nat) :
    p.pair.getLsbD i = if i < 8 then p.1.getLsbD i else decide (i = 8) && p.2 := by
  rw [Shifting.pair, BitVec.getLsbD_append]
  split
  · rfl
  · rw [BitVec.getLsbD_ofBool]
    congr 2
    simp only [eq_iff_iff]
    omega

theorem Shifting.pair_setWidth (p : Shifting) : p.pair.setWidth 8 = p.1 := BitVec.setWidth_append_eq_right

theorem Shifting.pair_getLsbD_carry (p : Shifting) : p.pair.getLsbD 8 = p.2 := by
  rw [Shifting.getLsbD_pair]
  rfl

/-- Once round ROL is the rotation of the pair by one (R251). -/
theorem pair_rolOnce (p : Shifting) : (rolOnce p).pair = p.pair.rotateLeft 1 := by
  obtain ⟨v, c⟩ := p
  apply BitVec.eq_of_getLsbD_eq
  intro i hi
  rw [BitVec.getLsbD_rotateLeft]
  simp only [Shifting.getLsbD_pair, rolOnce]
  interval_cases i <;> simp

/-- Once round ROR is the rotation of the pair by one, the other way (R252). -/
theorem pair_rorOnce (p : Shifting) : (rorOnce p).pair = p.pair.rotateRight 1 := by
  obtain ⟨v, c⟩ := p
  apply BitVec.eq_of_getLsbD_eq
  intro i hi
  rw [BitVec.getLsbD_rotateRight]
  simp only [Shifting.getLsbD_pair, rorOnce]
  interval_cases i <;> simp

/-! A rotation by `n + 1` is one by `n` and one by 1: the same for every bit, as the counts matter modulo 9 alone. -/

theorem rotateLeft_zero (x : BitVec 9) : x.rotateLeft 0 = x :=
  BitVec.eq_of_getLsbD_eq fun i hi => by simp [hi]

theorem rotateRight_zero (x : BitVec 9) : x.rotateRight 0 = x :=
  BitVec.eq_of_getLsbD_eq fun i hi => by simp [hi]

theorem rotateLeft_succ (x : BitVec 9) (n : Nat) : x.rotateLeft (n + 1) = (x.rotateLeft n).rotateLeft 1 := by
  apply BitVec.eq_of_getLsbD_eq
  intro i hi
  simp only [BitVec.getLsbD_rotateLeft]
  grind

theorem rotateRight_succ (x : BitVec 9) (n : Nat) : x.rotateRight (n + 1) = (x.rotateRight n).rotateRight 1 := by
  apply BitVec.eq_of_getLsbD_eq
  intro i hi
  simp only [BitVec.getLsbD_rotateRight]
  grind

theorem pair_iterate_rolOnce (n : Nat) (p : Shifting) : (iterate rolOnce n p).pair = p.pair.rotateLeft n := by
  induction n with
  | zero => exact (rotateLeft_zero _).symm
  | succ n ih => rw [iterate_succ_last, pair_rolOnce, ih, ← rotateLeft_succ p.pair n]

theorem pair_iterate_rorOnce (n : Nat) (p : Shifting) : (iterate rorOnce n p).pair = p.pair.rotateRight n := by
  induction n with
  | zero => exact (rotateRight_zero _).symm
  | succ n ih => rw [iterate_succ_last, pair_rorOnce, ih, ← rotateRight_succ p.pair n]

/-- A loop's answer, read off its pair: the result is bits 7:0, the carry bit 8. -/
theorem shiftResult_eq (p : Shifting) : shiftResult p = aluResult (p.pair.setWidth 8) (p.pair.getLsbD 8) := by
  rw [Shifting.pair_setWidth, Shifting.pair_getLsbD_carry, shiftResult]

theorem aluRol_eq (v : Byte) (n : Nat) (c : Bool) :
    aluRol v n c = aluResult (((Shifting.pair (v, c)).rotateLeft n).setWidth 8)
      (((Shifting.pair (v, c)).rotateLeft n).getLsbD 8) := by
  rw [aluRol, shiftResult_eq, pair_iterate_rolOnce]

theorem aluRor_eq (v : Byte) (n : Nat) (c : Bool) :
    aluRor v n c = aluResult (((Shifting.pair (v, c)).rotateRight n).setWidth 8)
      (((Shifting.pair (v, c)).rotateRight n).getLsbD 8) := by
  rw [aluRor, shiftResult_eq, pair_iterate_rorOnce]

/-- Settles O11: ROL and ROR are ALU forms of loops that rotate the pair. -/
theorem rotatesTurnTheNineBitPair : Obligations.RotatesTurnTheNineBitPair := by
  intro s r imm h
  exact ⟨(aluForm_rolRegImm r imm).completes h (aluRol_eq _ _ _),
    (aluForm_rorRegImm r imm).completes h (aluRor_eq _ _ _)⟩

/-- Once round ROR undoes once round ROL: the carry out comes back in, at the end it left by (R251, R252). -/
theorem rorOnce_rolOnce : Function.LeftInverse rorOnce rolOnce := by
  rintro ⟨v, c⟩
  refine Prod.ext (BitVec.eq_of_getLsbD_eq fun i hi => ?_) ?_
  · simp only [rorOnce, rolOnce]
    interval_cases i <;> simp
  · simp [rorOnce, rolOnce]

theorem iterate_rorOnce_rolOnce (n : Nat) (p : Shifting) : iterate rorOnce n (iterate rolOnce n p) = p := by
  simp only [iterate_eq]
  exact rorOnce_rolOnce.iterate n p

/-- Settles O12: the answer of a rotate left is the loop's value and carry, on which the rotate right runs back. -/
theorem rotateRightUndoesRotateLeft : Obligations.RotateRightUndoesRotateLeft := by
  intro v n c
  have hback : aluRor (aluRol v n c).result n (aluRol v n c).c = shiftResult (v, c) :=
    congrArg shiftResult (iterate_rorOnce_rolOnce n (v, c))
  rw [hback]
  exact ⟨rfl, rfl⟩

end Sys2Proof.Machine
end

section
/-! SUPPORT. What a load, a store and a stack access leave unchanged (R300-R307, R346-R348): each is a chain of changes of
the executing core and of bus accesses, and each of these has one lemma below. -/

namespace Sys2Proof.Machine

open Sys2Proof

/-! ## The meanings by register -/

theorem exec_movRegMem (r : Reg) (a : Word) (s : State) : exec (.movRegMem r a) s = loadRegMem r a s := by
  cases r <;> rfl

theorem exec_movMemReg (r : Reg) (a : Word) (s : State) : exec (.movMemReg r a) s = storeMemReg r a s := by
  cases r <;> rfl

theorem exec_pushReg (r : Reg) (s : State) : exec (.pushReg r) s = pushReg r s := by cases r <;> rfl

theorem exec_popReg (r : Reg) (s : State) : exec (.popReg r) s = popReg r s := by cases r <;> rfl

/-! ## What loads and stores leave alike -/

/-- Every core but the executing one, how many CPUs and cores there are, the CPUs' run states and the setting are as
before: the part that `LoadKeeps` and `StoreKeeps` share. -/
structure RestKept (s t : State) : Prop where
  /-- Every other core. -/
  cores : CoresKeptBut s t [s.self]
  /-- The CPUs and cores there are. -/
  shape : ShapeKept s t
  /-- The CPUs' own run states. -/
  cpuFlags : CpuFlagsKept s t
  /-- The parameters, the breakpoint set, the schedule and which core executes. -/
  setting : SettingKept s t

theorem SettingKept.trans {s t u : State} (h : SettingKept s t) (k : SettingKept t u) : SettingKept s u := by
  obtain ⟨hcfg, hbreak, hself, hhost, hturn⟩ := h
  obtain ⟨kcfg, kbreak, kself, khost, kturn⟩ := k
  exact ⟨kcfg.trans hcfg, kbreak.trans hbreak, kself.trans hself, khost.trans hhost, kturn.trans hturn⟩

theorem RestKept.trans {s t u : State} (h : RestKept s t) (k : RestKept t u) : RestKept s u where
  cores id hid := by
    obtain ⟨-, -, hself, -⟩ := h.setting
    exact (k.cores id (hself ▸ hid)).trans (h.cores id hid)
  shape := h.shape.trans k.shape
  cpuFlags c := by
    obtain ⟨hhalted, hpaused⟩ := h.cpuFlags c
    obtain ⟨khalted, kpaused⟩ := k.cpuFlags c
    exact ⟨khalted.trans hhalted, kpaused.trans hpaused⟩
  setting := h.setting.trans k.setting

theorem RestKept.updMe (s : State) (f : CoreState → CoreState) : RestKept s (s.updMe f) where
  cores id hid := s.core_updMe_ne id f fun he => hid (List.mem_singleton.mpr he)
  shape := .modifyCore s s.self f
  cpuFlags := cpuFlagsKept_modifyCore s s.self f
  setting := ⟨rfl, rfl, rfl, rfl, rfl⟩

/-- What keeps the CPUs but for their caches, as every bus access does, keeps every core. -/
theorem RestKept.of_bare {s t : State} (hbare : t.bare = s.bare) (hset : SettingKept s t) : RestKept s t where
  cores id _ := State.core_bare hbare id
  shape := .of_bare hbare
  cpuFlags c := ⟨State.cpu_halted_bare hbare c, State.cpu_paused_bare hbare c⟩
  setting := hset

theorem RestKept.memRead (s : State) (a : Word) : RestKept s (s.memRead a).2 :=
  .of_bare (s.busRead_bare s.self.cpu a)
    ⟨s.memRead_cfg a, s.memRead_breakpoints a, s.memRead_self a, s.memRead_host a, s.memRead_turn a⟩

theorem RestKept.memWrite (s : State) (a : Word) (v : Byte) : RestKept s (s.memWrite a v) :=
  .of_bare (s.busWrite_bare s.self.cpu a v)
    ⟨s.memWrite_cfg a v, s.memWrite_breakpoints a v, s.memWrite_self a v, s.memWrite_host a v, s.memWrite_turn a v⟩

/-! ## Loads -/

theorem loadKeeps_iff {s t : State} : LoadKeeps s t ↔
    (∀ n, t.mem.read n = s.mem.read n) ∧ RestKept s t ∧ t.ic = s.ic ∧ t.events = s.events :=
  ⟨fun ⟨hmem, hcores, hshape, hflags, hset, hdev⟩ => ⟨hmem, ⟨hcores, hshape, hflags, hset⟩, hdev⟩,
    fun ⟨hmem, ⟨hcores, hshape, hflags, hset⟩, hdev⟩ => ⟨hmem, hcores, hshape, hflags, hset, hdev⟩⟩

theorem LoadKeeps.trans {s t u : State} (h : LoadKeeps s t) (k : LoadKeeps t u) : LoadKeeps s u := by
  rw [loadKeeps_iff] at h k ⊢
  obtain ⟨hmem, hrest, hic, hevents⟩ := h
  obtain ⟨kmem, krest, kic, kevents⟩ := k
  exact ⟨fun n => (kmem n).trans (hmem n), hrest.trans krest, kic.trans hic, kevents.trans hevents⟩

theorem LoadKeeps.updMe (s : State) (f : CoreState → CoreState) : LoadKeeps s (s.updMe f) :=
  loadKeeps_iff.mpr ⟨fun _ => rfl, .updMe s f, rfl, rfl⟩

/-- A read may fill or evict a cache entry and draw a device's answer, nothing else (R105). -/
theorem LoadKeeps.memRead (s : State) (a : Word) : LoadKeeps s (s.memRead a).2 :=
  loadKeeps_iff.mpr ⟨fun _ => by rw [s.memRead_mem a], .memRead s a, s.memRead_ic a, s.memRead_events a⟩

theorem LoadKeeps.pop8 (s : State) : LoadKeeps s s.pop8.2 :=
  have hsp : LoadKeeps s s.incSp := .updMe s _
  hsp.trans (.memRead s.incSp _)

/-- RET and IRET go on from two pops. -/
theorem LoadKeeps.pop8_pop8 (s : State) : LoadKeeps s s.pop8.2.pop8.2 := (LoadKeeps.pop8 s).trans (.pop8 _)

/-- Settles O19: each of the four is reads by the executing core, then a change of that core. -/
theorem loadsLeaveTheRest : Obligations.LoadsLeaveTheRest := by
  intro s t r a _ h
  rw [exec_movRegMem, exec_popReg] at h
  rcases h with hload | hpop | hret | hiret
  · injection hload with hload; subst hload
    exact (LoadKeeps.memRead s a).trans (.updMe _ _)
  · injection hpop with hpop; subst hpop
    exact (LoadKeeps.pop8 s).trans (.updMe _ _)
  · injection hret with hret; subst hret
    exact (LoadKeeps.pop8_pop8 s).trans (.updMe _ _)
  · injection hiret with hiret; subst hiret
    exact ((LoadKeeps.pop8_pop8 s).trans (.pop8 _)).trans (.updMe _ _)

/-! ## Caches under a store -/

/-- The cache of CPU `d` after a write by CPU `c`: unchanged, or with the one address invalidated (R106, R110). -/
theorem State.cache_busWrite (s : State) (c d : Nat) (a : Word) (v : Byte) :
    ((s.busWrite c a v).cpu d).cache = (s.cpu d).cache ∨
      ((s.busWrite c a v).cpu d).cache = (s.cpu d).cache.invalidate a := by
  cases hr : regionOf s.cfg a with
  | rom => rw [s.busWrite_rom c a v hr]; exact .inl rfl
  | io slot port =>
    rw [s.busWrite_io c a v slot port hr, State.slotWrite]
    split
    · obtain ⟨ic, events, h⟩ := s.writeIcPort_shape port v
      rw [h]; exact .inl rfl
    · split <;> exact .inl rfl
  | ram => rw [s.busWrite_ram c a v hr]; exact State.cache_invalidate { s with mem := s.mem.write a.toNat v } c d a

theorem CachesKeptOutside.of_cachesKept {s t : State} (h : CachesKept s t) (stored : List Word) :
    CachesKeptOutside s t stored :=
  fun c => ⟨h c ▸ List.Sublist.refl _, fun _ hx _ => h c ▸ hx⟩

theorem CachesKeptOutside.trans {s t u : State} {l m : List Word} (h : CachesKeptOutside s t l)
    (k : CachesKeptOutside t u m) : CachesKeptOutside s u (l ++ m) := fun c =>
  ⟨(k c).1.trans (h c).1, fun x hx hout =>
    have ht : x ∈ (t.cpu c).cache := (h c).2 x hx fun hl => hout (List.mem_append_left m hl)
    (k c).2 x ht fun hm => hout (List.mem_append_right l hm)⟩

/-- A write takes no cache entry but those of its address (R110). -/
theorem CachesKeptOutside.busWrite (s : State) (c : Nat) (a : Word) (v : Byte) :
    CachesKeptOutside s (s.busWrite c a v) [a] := by
  intro d
  rcases s.cache_busWrite c d a v with hkept | hinv
  · rw [hkept]
    exact ⟨.refl _, fun _ hx _ => hx⟩
  · rw [hinv]
    refine ⟨List.filter_sublist, fun x hx hout => (Cache.mem_invalidate _ a x).mpr ⟨hx, ?_⟩⟩
    exact fun he => hout (List.mem_singleton.mpr he)

/-! ## Stores -/

/-- Only a write to I/O reaches the interrupt controller (R106). -/
theorem State.busWrite_ic {s : State} {a : Word} (c : Nat) (v : Byte) (h : isStorage s.cfg a) :
    (s.busWrite c a v).ic = s.ic := by
  rcases (isStorage_iff s.cfg a).mp h with hrom | hram
  · rw [s.busWrite_rom c a v hrom]; rfl
  · obtain ⟨hic, -, -⟩ := State.devicesKept_busWrite_ram c v hram
    exact hic

/-- A write to RAM is no event (R106). -/
theorem State.busWrite_events {s : State} {a : Word} (c : Nat) (v : Byte) (h : regionOf s.cfg a = .ram) :
    (s.busWrite c a v).events = s.events := by
  obtain ⟨-, hevents, -⟩ := State.devicesKept_busWrite_ram c v h
  exact hevents

theorem storeKeeps_iff {s t : State} {l : List Word} : StoreKeeps s t l ↔
    StorageKeptOutside s t l ∧ RestKept s t ∧ CachesKeptOutside s t l ∧ t.oracleDraws = s.oracleDraws ∧
      ((∀ a ∈ l, isStorage s.cfg a) → t.ic = s.ic) ∧ ((∀ a ∈ l, regionOf s.cfg a = .ram) → t.events = s.events) :=
  ⟨fun ⟨hmem, hcores, hshape, hflags, hset, hcache, hdev⟩ => ⟨hmem, ⟨hcores, hshape, hflags, hset⟩, hcache, hdev⟩,
    fun ⟨hmem, ⟨hcores, hshape, hflags, hset⟩, hcache, hdev⟩ => ⟨hmem, hcores, hshape, hflags, hset, hcache, hdev⟩⟩

/-- A store to the addresses `l`, then one to the addresses `m`. -/
theorem StoreKeeps.trans {s t u : State} {l m : List Word} (h : StoreKeeps s t l) (k : StoreKeeps t u m) :
    StoreKeeps s u (l ++ m) := by
  rw [storeKeeps_iff] at h k ⊢
  obtain ⟨hmem, hrest, hcache, hdraws, hic, hevents⟩ := h
  obtain ⟨kmem, krest, kcache, kdraws, kic, kevents⟩ := k
  obtain ⟨hcfg, -⟩ := hrest.setting
  rw [hcfg] at kic kevents
  refine ⟨hmem.trans kmem hcfg, hrest.trans krest, hcache.trans kcache, kdraws.trans hdraws, fun hl => ?_, fun hl => ?_⟩
  · obtain ⟨hl, hm⟩ := List.forall_mem_append.mp hl
    exact (kic hm).trans (hic hl)
  · obtain ⟨hl, hm⟩ := List.forall_mem_append.mp hl
    exact (kevents hm).trans (hevents hl)

theorem StoreKeeps.updMe (s : State) (f : CoreState → CoreState) : StoreKeeps s (s.updMe f) [] :=
  storeKeeps_iff.mpr ⟨s.updMe_kept f, .updMe s f, .of_cachesKept (fun c => s.cpu_updMe_cache c f) [], rfl,
    fun _ => rfl, fun _ => rfl⟩

theorem StoreKeeps.memWrite (s : State) (a : Word) (v : Byte) : StoreKeeps s (s.memWrite a v) [a] :=
  storeKeeps_iff.mpr ⟨s.busWrite_kept s.self.cpu a v, .memWrite s a v, .busWrite s s.self.cpu a v,
    s.memWrite_oracleDraws a v, fun h => State.busWrite_ic s.self.cpu v (h a (List.mem_singleton.mpr rfl)),
    fun h => State.busWrite_events s.self.cpu v (h a (List.mem_singleton.mpr rfl))⟩

/-- A change of the executing core stores nothing more. -/
theorem StoreKeeps.then_updMe {s t : State} {l : List Word} (h : StoreKeeps s t l) (f : CoreState → CoreState) :
    StoreKeeps s (t.updMe f) l :=
  l.append_nil ▸ h.trans (.updMe t f)

theorem StoreKeeps.push8 (s : State) (v : Byte) : StoreKeeps s (s.push8 v) [s.me.sp] :=
  (StoreKeeps.memWrite s s.me.sp v).then_updMe _

theorem State.me_push8 (s : State) (v : Byte) (h : s.hasCore s.self) :
    (s.push8 v).me = { s.me with sp := s.me.sp - 1 } := by
  rw [s.push8_spec v h]
  exact State.me_updMe _ _ (by simpa using h)

/-- The second of two pushes stores to the byte below the first (R300, R346). -/
theorem StoreKeeps.push8_push8 (s : State) (v w : Byte) (h : s.hasCore s.self) :
    StoreKeeps s ((s.push8 v).push8 w) [s.me.sp, s.me.sp - 1] := by
  have hsp : (s.push8 v).me.sp = s.me.sp - 1 := congrArg CoreState.sp (s.me_push8 v h)
  exact hsp ▸ (StoreKeeps.push8 s v).trans (.push8 _ w)

/-- Settles O18: each of the three is writes by the executing core, then a change of that core. -/
theorem storesLeaveTheRest : Obligations.StoresLeaveTheRest := by
  intro s t r a hcore
  rw [exec_movMemReg, exec_pushReg]
  refine ⟨fun hstore => ?_, fun hpush => ?_, fun hcall => ?_⟩
  · injection hstore with hstore; subst hstore
    exact (StoreKeeps.memWrite s a _).then_updMe _
  · injection hpush with hpush; subst hpush
    exact (StoreKeeps.push8 s _).then_updMe _
  · injection hcall with hcall; subst hcall
    exact (StoreKeeps.push8_push8 s _ _ hcore).then_updMe _

end Sys2Proof.Machine
end

section
/-! SUPPORT. The data transfer and stack instructions complete (42_data_transfer.md R302-R308): the register forms of
REF_MAP, and the next state as one bus access, if any, and a change of the executing core. -/

namespace Sys2Proof.Machine

open Sys2Proof

/-! ## The forms that act on the executing core alone -/

/-- A result to a register, then PC advanced, as one record update. -/
theorem CoreState.setReg_advance (m : CoreState) (r : Reg) (v : Byte) (n : Nat) :
    (m.setReg r v).advance n = { m.setReg r v with pc := m.pc + BitVec.ofNat 16 n } := by
  rw [CoreState.advance, CoreState.setReg_pc]

theorem encodedAs_movRegReg (dst src : Reg) :
    EncodedAs (.movRegReg dst src) (0x30#8 ||| (regCode dst <<< 2) ||| regCode src) 1 := by
  cases dst <;> cases src <;> exact encodedAs_code _

theorem exec_movRegReg (dst src : Reg) (s : State) : exec (.movRegReg dst src) s = moveRegReg dst src s := by
  cases dst <;> cases src <;> rfl

theorem encodedAs_movRegImm (r : Reg) (imm : Byte) : EncodedAs (.movRegImm r imm) (0x24#8 ||| regCode r) 2 := by
  cases r <;> exact encodedAs_code _

theorem exec_movRegImm (r : Reg) (imm : Byte) (s : State) : exec (.movRegImm r imm) s = moveRegImm r imm s := by
  cases r <;> rfl

/-- Settles O14: each of the three is one change of the executing core. -/
theorem movesWriteTheirDestination : Obligations.MovesWriteTheirDestination := by
  intro s dst src r imm w hcore
  refine ⟨⟨encodedAs_movRegReg dst src, _, exec_movRegReg dst src s, ?_⟩,
    ⟨encodedAs_movRegImm r imm, _, exec_movRegImm r imm s, ?_⟩, encodedAs_code _, _, rfl, becomesOnly_updMe s _ hcore⟩
  · exact s.me.setReg_advance dst _ 1 ▸ becomesOnly_updMe s _ hcore
  · exact s.me.setReg_advance r imm 2 ▸ becomesOnly_updMe s _ hcore

/-! ## The forms that access memory -/

/-- An instruction that ends in a change of the executing core leaves that core as the change makes it, and nothing
else is different from the state `u` before the change. -/
theorem completes_updMe {x : Result} {u : State} {f : CoreState → CoreState} {m : CoreState}
    (hx : x = .next (u.updMe f)) (hcore : u.hasCore u.self) (hf : f u.me = m) :
    ∃ t, x = .next t ∧ t.me = m ∧ t = u.updMe fun _ => t.me := by
  have hme : (u.updMe f).me = f u.me := u.me_updMe f hcore
  refine ⟨u.updMe f, hx, hme.trans hf, ?_⟩
  rw [hme]
  exact u.updMe_eq_const f

theorem encodedAs_movRegMem (r : Reg) (a : Word) : EncodedAs (.movRegMem r a) (0x28#8 ||| regCode r) 3 := by
  cases r <;> exact encodedAs_code _

theorem encodedAs_movMemReg (r : Reg) (a : Word) : EncodedAs (.movMemReg r a) (0x2C#8 ||| regCode r) 3 := by
  cases r <;> exact encodedAs_code _

theorem encodedAs_pushReg (r : Reg) : EncodedAs (.pushReg r) (0x10#8 ||| regCode r) 1 := by
  cases r <;> exact encodedAs_code _

theorem encodedAs_popReg (r : Reg) : EncodedAs (.popReg r) (0x14#8 ||| regCode r) 1 := by
  cases r <;> exact encodedAs_code _

/-- Settles O15: a load ends in a change of the executing core, which the read has left as it was. -/
theorem loadReadsItsAddress : Obligations.LoadReadsItsAddress := by
  intro s r a hcore
  refine ⟨encodedAs_movRegMem r a, completes_updMe (exec_movRegMem r a s) (by simpa using hcore) ?_⟩
  rw [s.me_memRead a]
  exact s.me.setReg_advance r _ 3

/-- Settles O16: a store ends in a change of the executing core, which the write has left as it was. -/
theorem storeWritesItsAddress : Obligations.StoreWritesItsAddress := by
  intro s r a hcore
  refine ⟨encodedAs_movMemReg r a, completes_updMe (exec_movMemReg r a s) (by simpa using hcore) ?_⟩
  rw [s.me_memWrite a _]
  rfl

/-- A push of a register is one write at SP, then one change of the executing core (R306). -/
theorem pushReg_spec (s : State) (r : Reg) (h : s.hasCore s.self) : pushReg r s =
    .next ((s.memWrite s.me.sp (s.me.reg r)).updMe fun _ => { s.me with sp := s.me.sp - 1, pc := s.me.pc + 1 }) := by
  rw [pushReg, s.push8_spec _ h, State.updMe_updMe]
  rfl

/-- A pop to a register is one read at SP + 1, then one change of the executing core (R307). -/
theorem popReg_spec (s : State) (r : Reg) (h : s.hasCore s.self) : popReg r s =
    .next ((s.memRead (s.me.sp + 1)).2.updMe fun _ =>
      { s.me.setReg r (s.memRead (s.me.sp + 1)).1 with sp := s.me.sp + 1, pc := s.me.pc + 1 }) := by
  rw [popReg, s.pop8_spec h, State.updMe_updMe]
  cases r <;> rfl

/-- Settles O17: SP and PC move in one change of the executing core, after the write or the read. -/
theorem pushAndPopMoveTheStackPointer : Obligations.PushAndPopMoveTheStackPointer := by
  intro s r hcore
  exact ⟨⟨encodedAs_pushReg r,
      completes_updMe ((exec_pushReg r s).trans (pushReg_spec s r hcore)) (by simpa using hcore) rfl⟩,
    encodedAs_popReg r,
    completes_updMe ((exec_popReg r s).trans (popReg_spec s r hcore)) (by simpa using hcore) rfl⟩

end Sys2Proof.Machine
end

section
/-! SUPPORT. The control transfer instructions (43_control_transfer.md R341-R348): the jumps as one change of the
executing core, CALL as two writes, RET and IRET as reads, and why a RET reads back what a CALL wrote to a RAM stack. -/

namespace Sys2Proof.Machine

open Sys2Proof

/-! ## The jumps -/

/-- Both outcomes of a conditional jump move PC alone (R341-R345, D11). -/
theorem CoreState.jump_or_advance (m : CoreState) (p : Prop) [Decidable p] (w : Word) :
    (if p then m.jump w else m.advance 3) = { m with pc := if p then w else m.pc + 3 } := by
  split <;> rfl

/-- A conditional jump completes with PC as its condition `p` says. -/
theorem jumpIf_completes {cond : CoreState → Bool} {s : State} {p : Prop} [Decidable p] (w : Word)
    (hcore : s.hasCore s.self) (hp : cond s.me = true ↔ p) :
    ∃ t, jumpIf cond w s = .next t ∧ BecomesOnly s t { s.me with pc := if p then w else s.me.pc + 3 } := by
  refine ⟨_, rfl, ?_⟩
  simpa only [CoreState.jump_or_advance, hp] using
    becomesOnly_updMe s (fun m => if cond m then m.jump w else m.advance 3) hcore

/-- Settles O20: JMP is one change of the executing core, and the others are conditional jumps on Z, on C, and on their
negations. -/
theorem jumpsFollowTheirFlag : Obligations.JumpsFollowTheirFlag := by
  intro s w hcore
  have hnot (b : Bool) : (!b) = true ↔ b = false := .of_eq (Bool.not_eq_true' b)
  exact ⟨⟨encodedAs_code _, _, rfl, becomesOnly_updMe s _ hcore⟩,
    ⟨encodedAs_code _, jumpIf_completes w hcore .rfl⟩, ⟨encodedAs_code _, jumpIf_completes w hcore (hnot _)⟩,
    ⟨encodedAs_code _, jumpIf_completes w hcore .rfl⟩, ⟨encodedAs_code _, jumpIf_completes w hcore (hnot _)⟩⟩

/-! ## CALL, RET and IRET -/

/-- The machine after a CALL's two writes, high byte first, before SP and PC change (R346, D10). -/
def State.pushReturn (s : State) : State :=
  (s.memWrite s.me.sp (hiByte (s.me.pc + 3))).memWrite (s.me.sp - 1) (loByte (s.me.pc + 3))

theorem State.hasCore_pushReturn {s : State} (h : s.hasCore s.self) : s.pushReturn.hasCore s.pushReturn.self := by
  simpa only [State.pushReturn, State.memWrite_self, State.hasCore_memWrite] using h

theorem State.pushReturn_self (s : State) : s.pushReturn.self = s.self := by
  simp only [State.pushReturn, State.memWrite_self]

theorem State.pushReturn_cfg (s : State) : s.pushReturn.cfg = s.cfg := by
  simp only [State.pushReturn, State.memWrite_cfg]

/-- CALL is two writes, then one change of the executing core (R346). -/
theorem exec_call (s : State) (w : Word) (h : s.hasCore s.self) :
    exec (.call w) s = .next (s.pushReturn.updMe fun _ => { s.me with sp := s.me.sp - 2, pc := w }) := by
  have hsp : s.me.sp - 1 - 1 = s.me.sp - 2 := by bv_omega
  change execCall w s = _
  rw [execCall, CoreState.returnAddr, s.push8_spec _ h, State.push8_updMe _ _ _ (by simpa using h),
    State.updMe_updMe, ← hsp]
  rfl

/-- RET is two reads, then one change of the executing core (R347). -/
theorem exec_ret (s : State) (h : s.hasCore s.self) :
    exec .ret s = .next (((s.memRead (s.me.sp + 1)).2.memRead (s.me.sp + 2)).2.updMe fun _ =>
      { s.me with
        sp := s.me.sp + 2
        pc := w16 (s.memRead (s.me.sp + 1)).1 ((s.memRead (s.me.sp + 1)).2.memRead (s.me.sp + 2)).1 }) := by
  have hsp : s.me.sp + 1 + 1 = s.me.sp + 2 := by bv_omega
  change execRet s = _
  simp only [execRet, s.pop8_spec h]
  rw [State.pop8_updMe _ _ (by simpa using h), State.updMe_updMe, ← hsp]
  rfl

/-- Settles O21: SP and PC move in one change of the executing core, after the two writes or the two reads. -/
theorem callPushesAndReturnPops : Obligations.CallPushesAndReturnPops := by
  intro s w hcore
  exact ⟨⟨encodedAs_code _, completes_updMe (exec_call s w hcore) (State.hasCore_pushReturn hcore) rfl⟩,
    encodedAs_code _, completes_updMe (exec_ret s hcore) (by simpa using hcore) rfl⟩

/-- Settles O23: the context changes at once, after the three reads, inside a handler or not. -/
theorem interruptReturnRestoresContext : Obligations.InterruptReturnRestoresContext := by
  intro s hcore
  exact ⟨encodedAs_code _,
    completes_updMe (congrArg Host.Outcome.next (interruptReturn_spec s hcore)) (by simpa using hcore) rfl⟩

/-! ## A byte that a CPU reads back

A cache may be stale at other addresses (scope OWN_CPU, R113), so the invariant is about one address. -/

/-- Storage holds `v` at `a`, and CPU `c` caches no other byte for it. -/
structure State.HoldsByte (s : State) (c : Nat) (a : Word) (v : Byte) : Prop where
  /-- The stored byte. -/
  stored : s.mem.read a.toNat = v
  /-- What the cache holds for the address, if anything. -/
  cached : ∀ x ∈ (s.cpu c).cache, x.1 = a → x.2 = v

section
variable {s : State} {c : Nat} {a : Word} {v : Byte}

/-- A read of a held byte answers it, from the cache or from storage (R105). -/
theorem State.HoldsByte.busRead_eq (h : s.HoldsByte c a v) (ha : isStorage s.cfg a) : (s.busRead c a).1 = v := by
  rw [s.busRead_storage c a ha, State.storageByte, h.stored]
  split
  · rfl
  · cases hlookup : (s.cpu c).cache.lookup a with
    | none => rfl
    | some u => exact h.cached (a, u) (Cache.mem_of_lookup _ a u hlookup) rfl

/-- What a cache holds after a read was there before, or is the stored byte of the address read (R105, R109). -/
theorem State.mem_cache_busRead (s : State) (c d : Nat) (b : Word) {x : Word × Byte}
    (hx : x ∈ ((s.busRead c b).2.cpu d).cache) : x ∈ (s.cpu d).cache ∨ x = (b, s.mem.read b.toNat) := by
  cases hr : regionOf s.cfg b with
  | rom => rw [s.busRead_rom c b hr] at hx; exact .inl hx
  | io slot port =>
    rw [s.busRead_io c b slot port hr, State.slotRead] at hx
    split at hx
    · exact .inl hx
    · split at hx <;> exact .inl hx
  | ram =>
    rw [s.busRead_ram c b hr] at hx
    cases hlookup : (s.cpu c).cache.lookup b with
    | some v => rw [State.ramRead_hit hlookup] at hx; exact .inl hx
    | none =>
      rw [State.ramRead_miss hlookup] at hx
      generalize s.mem.read b.toNat = v at hx ⊢
      rw [State.cpu_modifyCpu] at hx
      split at hx
      · next hd =>
        obtain ⟨rfl, -⟩ := hd
        dsimp only at hx
        exact Cache.mem_insert _ b v x hx
      · exact .inl hx

/-- A read of any address keeps a held byte (R105). -/
theorem State.HoldsByte.busRead (h : s.HoldsByte c a v) (d : Nat) (b : Word) : (s.busRead d b).2.HoldsByte c a v where
  stored := by rw [s.busRead_mem, h.stored]
  cached x hx hxa := by
    rcases s.mem_cache_busRead d c b hx with hold | rfl
    · exact h.cached x hold hxa
    · subst hxa; exact h.stored

/-- A write to another address keeps a held byte (R106, R110). -/
theorem State.HoldsByte.busWrite_ne (h : s.HoldsByte c a v) (d : Nat) {b : Word} (hab : a ≠ b) (u : Byte) :
    (s.busWrite d b u).HoldsByte c a v where
  stored := by
    refine ((s.busWrite_kept d b u).1 a.toNat fun b' hb' => ?_).trans h.stored
    rw [List.mem_singleton.mp hb']
    exact fun he => hab (BitVec.eq_of_toNat_eq he.symm)
  cached x hx := h.cached x ((CachesKeptOutside.busWrite s d b u c).1.subset hx)

/-- A change of the executing core keeps a held byte. -/
theorem State.HoldsByte.updMe (h : s.HoldsByte c a v) (f : CoreState → CoreState) : (s.updMe f).HoldsByte c a v where
  stored := h.stored
  cached := by rw [s.cpu_updMe_cache]; exact h.cached

/-- The byte a CPU writes to RAM is held: its own cache loses the address under either scope (R106, R110). -/
theorem State.holdsByte_busWrite (v : Byte) (hmem : s.mem.wf) (hc : c < s.numCpus) (hr : regionOf s.cfg a = .ram) :
    (s.busWrite c a v).HoldsByte c a v where
  stored := s.busWrite_stored c a v hmem.1 hr
  cached x hx hxa := by
    rw [s.busWrite_ram c a v hr] at hx
    have hgone := State.lookup_invalidate_self { s with mem := s.mem.write a.toNat v } c a hc
    exact absurd hxa ((Cache.lookup_eq_none _ a).mp hgone x hx)

end

/-! ## RET after CALL -/

/-- The two bytes of the return address are held where a CALL on a RAM stack wrote them. -/
theorem State.pushReturn_holds {s : State} (hmem : s.mem.wf) (hcore : s.hasCore s.self)
    (hsp : regionOf s.cfg s.me.sp = .ram) (hsp1 : regionOf s.cfg (s.me.sp - 1) = .ram) :
    s.pushReturn.HoldsByte s.self.cpu (s.me.sp - 1) (loByte (s.me.pc + 3)) ∧
      s.pushReturn.HoldsByte s.self.cpu s.me.sp (hiByte (s.me.pc + 3)) := by
  have hne : s.me.sp ≠ s.me.sp - 1 := by bv_omega
  have hcpu : s.self.cpu < s.numCpus := s.lt_of_hasCore s.self hcore
  have hhi : (s.memWrite s.me.sp (hiByte (s.me.pc + 3))).HoldsByte s.self.cpu s.me.sp (hiByte (s.me.pc + 3)) :=
    State.holdsByte_busWrite _ hmem hcpu hsp
  rw [State.pushReturn, State.memWrite]
  refine ⟨?_, hhi.busWrite_ne _ hne _⟩
  rw [s.memWrite_self]
  refine State.holdsByte_busWrite _ (s.busWrite_wf _ _ _ hmem) ?_ (by rwa [s.memWrite_cfg])
  exact State.lt_of_hasCore _ s.self ((s.hasCore_memWrite _ _ _).mpr hcore)

/-- A RET on two bytes of storage that its CPU reads back pops them to PC (R347). -/
theorem exec_ret_of_holds {s : State} {a b : Word} {lo hi : Byte} (hcore : s.hasCore s.self)
    (ha : s.me.sp + 1 = a) (hb : s.me.sp + 2 = b) (hlo : s.HoldsByte s.self.cpu a lo)
    (hhi : s.HoldsByte s.self.cpu b hi) (haStorage : isStorage s.cfg a) (hbStorage : isStorage s.cfg b) :
    ∃ u, exec .ret s = .next u ∧ u.me = { s.me with sp := b, pc := w16 lo hi } := by
  subst ha hb
  have hfirst : (s.memRead (s.me.sp + 1)).1 = lo := hlo.busRead_eq haStorage
  have hsecond : ((s.memRead (s.me.sp + 1)).2.memRead (s.me.sp + 2)).1 = hi := by
    rw [State.memRead, s.memRead_self]
    exact (hhi.busRead s.self.cpu _).busRead_eq (by rwa [s.busRead_cfg])
  refine ⟨_, exec_ret s hcore, ?_⟩
  rw [State.me_updMe _ _ (by simpa using hcore), hfirst, hsecond]

/-- Settles O22: the return address is held where RET reads it, and SP comes back to where it was. -/
theorem returnUndoesCall : Obligations.ReturnUndoesCall := by
  intro s t w hinv hcore hsp hsp1 hcall
  obtain ⟨hmem, -⟩ := hinv
  obtain ⟨hlo, hhi⟩ := State.pushReturn_holds hmem hcore hsp hsp1
  obtain rfl : s.pushReturn.updMe (fun _ => { s.me with sp := s.me.sp - 2, pc := w }) = t :=
    Host.Outcome.next.inj ((exec_call s w hcore).symm.trans hcall)
  have hpushed : s.pushReturn.hasCore s.pushReturn.self := State.hasCore_pushReturn hcore
  rw [← s.pushReturn_self] at hlo hhi
  rw [← s.pushReturn_cfg] at hsp hsp1
  have hme := s.pushReturn.me_updMe (fun _ => { s.me with sp := s.me.sp - 2, pc := w }) hpushed
  obtain ⟨u, hret, hu⟩ := exec_ret_of_holds ((State.hasCore_updMe ..).mpr hpushed)
    (by rw [hme]; bv_omega) (by rw [hme]; bv_omega) (hlo.updMe _) (hhi.updMe _)
    ((isStorage_iff _ _).mpr (.inr hsp1)) ((isStorage_iff _ _).mpr (.inr hsp))
  refine ⟨u, hret, ?_⟩
  rw [hu, hme, Laws.w16_lo_hi]

end Sys2Proof.Machine
end

section
/-! SUPPORT. The system instructions (44_system.md R380-R385): most are one change of the executing core; what is more is
SYSCALL's exit, which clears the program region and the caches, SYSCALL's services, which access the bus, and the
recording of a breakpoint. -/

namespace Sys2Proof.Machine

open Sys2Proof

/-! ## NOP, HALT, EI, DI and BREAKPOINT -/

/-- Settles O24: each of the four is one change of the executing core. -/
theorem systemFlagsOfTheCore : Obligations.SystemFlagsOfTheCore := by
  intro s hcore
  exact ⟨⟨encodedAs_code _, _, rfl, becomesOnly_updMe s _ hcore⟩, ⟨encodedAs_code _, _, rfl, becomesOnly_updMe s _ hcore⟩,
    ⟨encodedAs_code _, _, rfl, becomesOnly_updMe s _ hcore⟩, encodedAs_code _, _, rfl, becomesOnly_updMe s _ hcore⟩

/-- BREAKPOINT at the recorded address passes it (R383). -/
theorem exec_breakpoint_of_recorded {s : State} (h : s.me.currentBreakpoint = some s.me.pc) :
    exec .breakpoint s =
      .next (s.updMe fun m => ({ m with currentBreakpoint := none } : CoreState).advance 1) :=
  if_pos h

/-- BREAKPOINT at any other address records it (R383). -/
theorem exec_breakpoint_of_not_recorded {s : State} (h : s.me.currentBreakpoint ≠ some s.me.pc) :
    exec .breakpoint s = .next s.recordBreakpoint :=
  if_neg h

/-- Settles O26: the pass is one change of the executing core, and the record also pauses its CPU. -/
theorem breakpointRecordsThenPasses : Obligations.BreakpointRecordsThenPasses := by
  intro s hcore
  exact ⟨encodedAs_code _, fun hrec => ⟨_, exec_breakpoint_of_recorded hrec, becomesOnly_updMe s _ hcore⟩,
    fun hnew => ⟨_, exec_breakpoint_of_not_recorded hnew, s.recordBreakpoint_spec hcore⟩⟩

/-! ## The branches of SYSCALL -/

section
variable {s : State}

theorem exec_syscall_zero_of_core_zero (h : s.self.core = 0) : exec (.syscall 0#8) s = .next s.exitProgram := by
  change execSyscall 0#8 s = _
  rw [execSyscall, if_pos rfl, if_pos h]

theorem exec_syscall_zero_of_core_ne_zero (h : s.self.core ≠ 0) : exec (.syscall 0#8) s =
    .next (s.updMe fun m => ({ m with halted := true } : CoreState).advance 2) := by
  change execSyscall 0#8 s = _
  rw [execSyscall, if_pos rfl, if_neg h]

theorem exec_syscall_of_not_mem {n : Byte} (hn : n ≠ 0#8) (h : n ∉ s.cfg.syscallOther) :
    exec (.syscall n) s = .refused (.syscallOther n s.self.cpu s.self.core s.me.pc) :=
  (if_neg hn).trans (if_neg h)

theorem exec_syscall_of_mem {n : Byte} (hn : n ≠ 0#8) (h : n ∈ s.cfg.syscallOther) :
    exec (.syscall n) s = .next (s.serve (Config.serviceAnswer s.oracleDraws n)) :=
  (if_neg hn).trans (if_pos h)

end

/-! ## The exit -/

/-- What keeps the CPUs but for their caches keeps which cores exist. -/
theorem State.hasCore_of_bare {s t : State} (h : t.bare = s.bare) (id : CoreId) : t.hasCore id ↔ s.hasCore id := by
  rw [State.hasCore, State.hasCore, State.cpu_cores_bare h]

/-- Of the program region, the exit clears what is RAM: between ROM and the I/O window (R382, D19, log 12). -/
theorem State.read_clearProgram (s : State) (a : Word) : s.clearProgram.mem.read a.toNat =
    if s.cfg.programStart ≤ a ∧ a ≤ s.cfg.programEnd ∧ regionOf s.cfg a = .ram then 0#8 else s.mem.read a.toNat := by
  have hrange : max s.cfg.programStart.toNat (s.cfg.romEnd.toNat + 1) ≤ a.toNat ∧
        a.toNat ≤ min s.cfg.programEnd.toNat (ioBase.toNat - 1) ↔
      s.cfg.programStart ≤ a ∧ a ≤ s.cfg.programEnd ∧ regionOf s.cfg a = .ram := by
    rw [regionOf_ram]
    have hio : ioBase.toNat = 0xFF00 := rfl
    simp only [BitVec.le_def, BitVec.lt_def]
    omega
  rw [State.clearProgram, Memory.read_clear]
  simp only [hrange]

/-- Every cache is empty after the clear; a CPU that does not exist has none to clear (R111). -/
theorem State.cache_clearCaches (s : State) (c : Nat) : (s.clearCaches.cpu c).cache = [] := by
  rw [State.clearCaches, State.cpu_map]
  split
  · rfl
  · next hc => rw [s.cpu_of_le c (Nat.le_of_not_lt hc)]; rfl

theorem State.cache_exitProgram (s : State) (c : Nat) : (s.exitProgram.cpu c).cache = [] := by
  rw [State.exitProgram, State.cpu_updMe_cache, State.cache_clearCaches]

/-- The clear reaches storage and caches only (R382). -/
theorem State.bare_clearProgram_clearCaches (s : State) : s.clearProgram.clearCaches.bare = s.bare :=
  s.clearProgram.bare_map _ fun p => p.bare_cache []

/-- The clear leaves the executing core, which the exit then sends to OS_START (R382). -/
theorem State.me_exitProgram (s : State) (h : s.hasCore s.self) :
    s.exitProgram.me = { s.me with pc := s.cfg.osStart } := by
  have hcore : s.clearProgram.clearCaches.hasCore s.self :=
    (State.hasCore_of_bare s.bare_clearProgram_clearCaches s.self).mpr h
  have hme : s.clearProgram.clearCaches.me = s.me := State.core_bare s.bare_clearProgram_clearCaches s.self
  rw [State.exitProgram, State.me_updMe _ _ hcore, hme]
  rfl

theorem RestKept.exitProgram (s : State) : RestKept s s.exitProgram :=
  have hclear : RestKept s s.clearProgram.clearCaches :=
    .of_bare s.bare_clearProgram_clearCaches ⟨rfl, rfl, rfl, rfl, rfl⟩
  hclear.trans (.updMe _ _)

/-! ## The services -/

/-- A service draws its answer and accesses the bus (R382, D17). -/
theorem RestKept.access_drawn (s : State) (l : List (Word × Option Byte)) : RestKept s (State.access l s.drawn) :=
  have hdrawn : RestKept s s.drawn := .of_bare rfl ⟨rfl, rfl, rfl, rfl, rfl⟩
  have ⟨hbare, hset⟩ := s.drawn.access_kept l
  hdrawn.trans (.of_bare hbare hset)

/-- The core that asked for the service still executes, after the accesses and before the answer is in its registers. -/
theorem State.hasCore_access_drawn {s : State} (l : List (Word × Option Byte)) (h : s.hasCore s.self) :
    (State.access l s.drawn).hasCore (State.access l s.drawn).self := by
  obtain ⟨hbare, -, -, hself, -⟩ := s.drawn.access_kept l
  rw [hself]
  exact (State.hasCore_of_bare hbare s.self).mpr h

/-- A service answers in the general registers and PC, after its accesses (R382, D17). -/
theorem State.serve_spec (s : State) (x : Service) (h : s.hasCore s.self) :
    (s.serve x).me = { s.me with a := x.a, b := x.b, c := x.c, d := x.d, pc := x.pc } ∧
      s.serve x = (State.access x.accesses s.drawn).updMe fun _ => (s.serve x).me := by
  have hme : (s.serve x).me =
      { (State.access x.accesses s.drawn).me with a := x.a, b := x.b, c := x.c, d := x.d, pc := x.pc } :=
    State.me_updMe _ _ (State.hasCore_access_drawn x.accesses h)
  refine ⟨hme.trans (by rw [s.drawn.me_access]; rfl), ?_⟩
  rw [hme]
  exact State.updMe_eq_const _ _

theorem RestKept.serve (s : State) (x : Service) : RestKept s (s.serve x) :=
  (RestKept.access_drawn s x.accesses).trans (.updMe _ _)

/-! ## SYSCALL -/

/-- Settles O25: the exit, the halt as one change of the executing core, the refusal, and the service. -/
theorem syscallExitsHaltsOrRefuses : Obligations.SyscallExitsHaltsOrRefuses := by
  intro s hcore
  refine ⟨fun _ => encodedAs_code _, fun hzero => ?exit,
    fun hne => ⟨_, exec_syscall_zero_of_core_ne_zero hne, becomesOnly_updMe s _ hcore⟩,
    fun n hn => ⟨exec_syscall_of_not_mem hn, fun hmem => ?service⟩⟩
  case exit =>
    obtain ⟨hcores, hshape, hflags, hset⟩ := RestKept.exitProgram s
    exact ⟨_, exec_syscall_zero_of_core_zero hzero, s.me_exitProgram hcore, s.read_clearProgram, s.cache_exitProgram,
      hcores, hshape, hflags, hset, rfl, rfl, rfl⟩
  case service =>
    obtain ⟨hcores, hshape, hflags, hset⟩ := RestKept.serve s (Config.serviceAnswer s.oracleDraws n)
    exact ⟨_, exec_syscall_of_mem hn hmem, s.serve_spec _ hcore, hcores, hshape, hflags, hset⟩

end Sys2Proof.Machine
end

section
/-! SUPPORT. The multi-core and multi-CPU control instructions (45_multicore.md R420-R432): what a check of the target
leads to, and the next state as a change of the target, then one of the executing core. -/

namespace Sys2Proof.Machine

open Sys2Proof

/-! ## What is left when only some cores change -/

/-- Nothing but cores of `ids` has changed: the part that `BecomesOnly` and the multi-core operations share. -/
structure ChangesOnly (s t : State) (ids : List CoreId) : Prop where
  /-- Storage, caches, devices, the setting and the CPUs and cores there are. -/
  machine : MachineKept s t
  /-- The CPUs' own run states. -/
  cpuFlags : CpuFlagsKept s t
  /-- Every other core. -/
  cores : CoresKeptBut s t ids

theorem ShapeKept.hasCore {s t : State} (h : ShapeKept s t) {id : CoreId} (hid : s.hasCore id) : t.hasCore id := by
  obtain ⟨-, hlength⟩ := h
  rw [State.hasCore, hlength]
  exact hid

section
variable {s t : State} {ids : List CoreId}

theorem ChangesOnly.refl (s : State) (ids : List CoreId) : ChangesOnly s s ids :=
  ⟨.refl s, fun _ => ⟨rfl, rfl⟩, fun _ _ => rfl⟩

/-- A core that exists still does. -/
theorem ChangesOnly.hasCore (h : ChangesOnly s t ids) {id : CoreId} (hid : s.hasCore id) : t.hasCore id := by
  obtain ⟨-, -, hshape, -⟩ := h.machine
  exact hshape.hasCore hid

/-- One more change of a core of `ids`. -/
theorem ChangesOnly.modifyCore (h : ChangesOnly s t ids) {id : CoreId} (hid : id ∈ ids) (f : CoreState → CoreState) :
    ChangesOnly s (t.modifyCore id f) ids where
  machine := h.machine.trans (machineKept_modifyCore t id f)
  cpuFlags c := by
    obtain ⟨hhalted, hpaused⟩ := h.cpuFlags c
    exact ⟨(t.cpu_modifyCore_halted c id f).trans hhalted, (t.cpu_modifyCore_paused c id f).trans hpaused⟩
  cores id' hid' := (t.core_modifyCore_ne id id' f fun he => hid' (he ▸ hid)).trans (h.cores id' hid')

theorem ChangesOnly.updMe (h : ChangesOnly s t ids) (hself : t.self ∈ ids) (f : CoreState → CoreState) :
    ChangesOnly s (t.updMe f) ids := h.modifyCore hself f

theorem ChangesOnly.advanceUnless (h : ChangesOnly s t ids) (hself : t.self ∈ ids) (own : Prop) [Decidable own] :
    ChangesOnly s (t.advanceUnless own) ids := by
  unfold State.advanceUnless
  split
  · exact h
  · exact h.updMe hself _

theorem ChangesOnly.setPcIf (h : ChangesOnly s t ids) {id : CoreId} (hid : id ∈ ids) (gate : Bool) (w : Word) :
    ChangesOnly s (t.setPcIf gate id w) ids := by
  unfold State.setPcIf
  split
  · exact h.modifyCore hid _
  · exact h

end

/-! ## PC after an operation on a unit (R421) -/

theorem State.me_advanceUnless (s : State) (own : Prop) [Decidable own] (h : s.hasCore s.self) :
    (s.advanceUnless own).me = if own then s.me else { s.me with pc := s.me.pc + 1 } := by
  unfold State.advanceUnless
  split
  · rfl
  · exact s.me_updMe _ h

theorem State.core_advanceUnless_ne (s : State) (own : Prop) [Decidable own] {id : CoreId} (h : id ≠ s.self) :
    (s.advanceUnless own).core id = s.core id :=
  ((ChangesOnly.refl s [s.self]).advanceUnless (List.mem_singleton_self _) own).cores id
    fun he => h (List.mem_singleton.mp he)

/-! ## The counts and the status -/

section
variable {s : State}

theorem exec_coreStatus (h : s.me.a.toNat < s.numCores) : exec .coreStatus s =
    .next (s.answerInA (statusByte (s.core ⟨s.self.cpu, s.me.a.toNat⟩).halted)) :=
  show execCoreStatus s = _ from withTarget_of_lt _ _ _ s h

theorem exec_cpuStatus (h : s.me.a.toNat < s.numCpus) : exec .cpuStatus s =
    .next (s.answerInA (statusByte (s.cpu s.me.a.toNat).halted)) :=
  show execCpuStatus s = _ from withTarget_of_lt _ _ _ s h

theorem becomesOnly_answerInA (v : Byte) (h : s.hasCore s.self) :
    BecomesOnly s (s.answerInA v) { s.me with a := v, pc := s.me.pc + 1 } :=
  becomesOnly_updMe s _ h

/-- Settles O27: each of the four is one answer in A. -/
theorem countsAndStatusAnswerInA : Obligations.CountsAndStatusAnswerInA := by
  intro s hcore
  exact ⟨⟨encodedAs_code _, _, rfl, becomesOnly_answerInA _ hcore⟩,
    ⟨encodedAs_code _, _, rfl, becomesOnly_answerInA _ hcore⟩,
    ⟨encodedAs_code _, fun h => ⟨_, exec_coreStatus h, becomesOnly_answerInA _ hcore⟩⟩,
    encodedAs_code _, fun h => ⟨_, exec_cpuStatus h, becomesOnly_answerInA _ hcore⟩⟩

end

/-! ## CORE_START and CORE_HALT -/

/-- What CORE_START (`b = false`) and CORE_HALT (`b = true`) of core `k` of the executing core's CPU do (R424, R425). -/
def State.runCore (s : State) (k : Nat) (b : Bool) : State :=
  (s.modifyCore (s.sibling k) fun m => m.setHalted b).advanceUnless (k = s.self.core)

theorem exec_coreStart_or_coreHalt {i : Instr} {b : Bool} {s : State}
    (hi : (i = .coreStart ∧ b = false) ∨ (i = .coreHalt ∧ b = true)) (h : s.me.a.toNat < s.numCores) :
    exec i s = .next (s.runCore s.me.a.toNat b) := by
  rcases hi with ⟨rfl, rfl⟩ | ⟨rfl, rfl⟩
  · exact (show execCoreStart s = _ from withTarget_of_lt _ _ _ s h)
  · exact (show execCoreHalt s = _ from withTarget_of_lt _ _ _ s h)

theorem State.sibling_eq_self_iff (s : State) (k : Nat) : s.sibling k = s.self ↔ k = s.self.core := by
  cases hself : s.self with
  | mk c j => simp [State.sibling, hself]

theorem ChangesOnly.runCore (s : State) (k : Nat) (b : Bool) :
    ChangesOnly s (s.runCore k b) [s.self, s.sibling k] :=
  ((ChangesOnly.refl s _).modifyCore (by simp) _).advanceUnless (by simp) _

/-- A core that starts or halts itself keeps its PC (R421). -/
theorem State.me_runCore_own {s : State} {k : Nat} (b : Bool) (hcore : s.hasCore s.self)
    (hown : s.sibling k = s.self) : (s.runCore k b).me = { s.me with halted := b } := by
  rw [State.runCore, State.advanceUnless, if_pos ((s.sibling_eq_self_iff k).mp hown), hown]
  exact s.me_updMe _ hcore

/-- A core that starts or halts another one goes on. -/
theorem State.me_runCore_other {s : State} {k : Nat} (b : Bool) (hcore : s.hasCore s.self)
    (hother : s.sibling k ≠ s.self) : (s.runCore k b).me = { s.me with pc := s.me.pc + 1 } := by
  have hme : (s.modifyCore (s.sibling k) fun m => m.setHalted b).me = s.me :=
    s.core_modifyCore_ne _ _ _ hother.symm
  rw [State.runCore, State.me_advanceUnless _ _ (by simpa using hcore), hme,
    if_neg (mt (s.sibling_eq_self_iff k).mpr hother)]

theorem State.core_runCore_other {s : State} {k : Nat} (b : Bool) (hk : s.hasCore (s.sibling k))
    (hother : s.sibling k ≠ s.self) :
    (s.runCore k b).core (s.sibling k) = { s.core (s.sibling k) with halted := b } := by
  rw [State.runCore, State.core_advanceUnless_ne]
  · exact s.core_modifyCore_self _ _ hk
  · exact hother

/-- Settles O28: the flag of the target, then PC unless the target is the executing core. -/
theorem coreStartAndHaltSetTheTarget : Obligations.CoreStartAndHaltSetTheTarget := by
  intro s hcore hlt
  refine ⟨encodedAs_code _, encodedAs_code _, fun i b hi => ?_⟩
  obtain ⟨hmachine, hflags, hcores⟩ := ChangesOnly.runCore s s.me.a.toNat b
  exact ⟨_, exec_coreStart_or_coreHalt hi hlt, hmachine, hflags, hcores, State.me_runCore_own b hcore,
    fun hother => ⟨State.me_runCore_other b hcore hother, State.core_runCore_other b hlt hother⟩⟩

/-! ## CPU_START and CPU_HALT -/

/-- What CPU_START (`b = false`) and CPU_HALT (`b = true`) of CPU `c` do (R429, R430). -/
def State.runCpu (s : State) (c : Nat) (b : Bool) : State :=
  (s.modifyCpu c fun p => p.setHalted b).advanceUnless (c = s.self.cpu)

theorem exec_cpuStart_or_cpuHalt {i : Instr} {b : Bool} {s : State}
    (hi : (i = .cpuStart ∧ b = false) ∨ (i = .cpuHalt ∧ b = true)) (h : s.me.a.toNat < s.numCpus) :
    exec i s = .next (s.runCpu s.me.a.toNat b) := by
  rcases hi with ⟨rfl, rfl⟩ | ⟨rfl, rfl⟩
  · exact (show execCpuStart s = _ from withTarget_of_lt _ _ _ s h)
  · exact (show execCpuHalt s = _ from withTarget_of_lt _ _ _ s h)

/-- A CPU's own flag is none of what `MachineKept` speaks of. -/
theorem machineKept_setHalted (s : State) (c : Nat) (b : Bool) :
    MachineKept s (s.modifyCpu c fun p => p.setHalted b) :=
  machineKept_of rfl rfl (.modifyCpu s c fun _ => rfl) ⟨rfl, rfl, rfl, rfl, rfl⟩
    (fun d => s.cpu_modifyCpu_proj c d _ CpuState.cache fun _ => rfl) ⟨rfl, rfl, rfl⟩

theorem State.core_setHalted (s : State) (c : Nat) (b : Bool) (id : CoreId) :
    (s.modifyCpu c fun p => p.setHalted b).core id = s.core id :=
  s.core_modifyCpu c id _ fun _ => rfl

/-- After the CPU's flag, only the executing core changes. -/
theorem ChangesOnly.runCpu (s : State) (c : Nat) (b : Bool) :
    ChangesOnly (s.modifyCpu c fun p => p.setHalted b) (s.runCpu c b) [s.self] :=
  (ChangesOnly.refl _ _).advanceUnless (by simp) _

theorem State.me_runCpu {s : State} (c : Nat) (b : Bool) (hcore : s.hasCore s.self) :
    (s.runCpu c b).me = if c = s.self.cpu then s.me else { s.me with pc := s.me.pc + 1 } := by
  have hme : (s.modifyCpu c fun p => p.setHalted b).me = s.me := s.core_setHalted c b s.self
  have hshape : ShapeKept s (s.modifyCpu c fun p => p.setHalted b) := .modifyCpu s c fun _ => rfl
  rw [State.runCpu, State.me_advanceUnless _ _ (hshape.hasCore hcore), hme]

theorem State.halted_runCpu {s : State} {c : Nat} (b : Bool) (hc : c < s.numCpus) (d : Nat) :
    ((s.runCpu c b).cpu d).halted = if d = c then b else (s.cpu d).halted := by
  obtain ⟨hhalted, -⟩ := (ChangesOnly.runCpu s c b).cpuFlags d
  rw [hhalted]
  split
  · next he => rw [he, s.cpu_modifyCpu_self c _ hc]; rfl
  · next hne => rw [s.cpu_modifyCpu_ne c d _ hne]

theorem State.paused_runCpu (s : State) (c : Nat) (b : Bool) (d : Nat) :
    ((s.runCpu c b).cpu d).paused = (s.cpu d).paused := by
  obtain ⟨-, hpaused⟩ := (ChangesOnly.runCpu s c b).cpuFlags d
  exact hpaused.trans (s.cpu_modifyCpu_proj c d _ CpuState.paused fun _ => rfl)

/-- Settles O29: the flag of the target CPU, then PC unless it is the executing core's own. -/
theorem cpuStartAndHaltSetTheTarget : Obligations.CpuStartAndHaltSetTheTarget := by
  intro s hcore hlt
  refine ⟨encodedAs_code _, encodedAs_code _, fun i b hi => ?_⟩
  obtain ⟨hmachine, -, hcores⟩ := ChangesOnly.runCpu s s.me.a.toNat b
  exact ⟨_, exec_cpuStart_or_cpuHalt hi hlt, (machineKept_setHalted s _ b).trans hmachine,
    fun id hid => (hcores id hid).trans (s.core_setHalted _ b id), State.me_runCpu _ b hcore,
    fun c => ⟨s.paused_runCpu _ b c, State.halted_runCpu b hlt c⟩⟩

/-! ## CORE_SET_PC and CPU_SET_PC -/

/-- What CORE_SET_PC and CPU_SET_PC do to core `id`, with `gate` for whether it is halted (R426, R431). -/
def State.sendIf (s : State) (gate : Bool) (id : CoreId) : State :=
  (s.setPcIf gate id s.me.wordCD).updMe fun m => m.advance 1

section
variable {s : State} {gate : Bool} {id : CoreId}

theorem exec_coreSetPc (h : s.me.a.toNat < s.numCores) : exec .coreSetPc s =
    .next (s.sendIf (s.core ⟨s.self.cpu, s.me.a.toNat⟩).halted ⟨s.self.cpu, s.me.a.toNat⟩) :=
  show execCoreSetPc s = _ from withTarget_of_lt _ _ _ s h

theorem exec_cpuSetPc (h : s.me.a.toNat < s.numCpus) : exec .cpuSetPc s =
    .next (s.sendIf (s.cpu s.me.a.toNat).halted ⟨s.me.a.toNat, 0⟩) :=
  show execCpuSetPc s = _ from withTarget_of_lt _ _ _ s h

theorem State.setPcIf_self (w : Word) : (s.setPcIf gate id w).self = s.self := by
  unfold State.setPcIf
  split <;> rfl

/-- The target's PC is written if the gate is open. -/
theorem State.core_setPcIf (w : Word) (hid : s.hasCore id) :
    (s.setPcIf gate id w).core id = if gate = true then { s.core id with pc := w } else s.core id := by
  unfold State.setPcIf
  split
  · exact s.core_modifyCore_self id _ hid
  · rfl

/-- The executing core is not the target, or the gate is shut. -/
theorem State.me_setPcIf (w : Word) (hown : id = s.self → gate = false) : (s.setPcIf gate id w).me = s.me := by
  unfold State.setPcIf
  split
  · next hgate => exact s.core_modifyCore_ne id _ _ fun he => Bool.false_ne_true ((hown he.symm).symm.trans hgate)
  · rfl

theorem ChangesOnly.setPcIf_target (s : State) (gate : Bool) (id : CoreId) (w : Word) :
    ChangesOnly s (s.setPcIf gate id w) [s.self, id] :=
  (ChangesOnly.refl s _).setPcIf (by simp) gate w

theorem ChangesOnly.sendIf (s : State) (gate : Bool) (id : CoreId) :
    ChangesOnly s (s.sendIf gate id) [s.self, id] :=
  (ChangesOnly.setPcIf_target s gate id _).updMe (by simp [State.setPcIf_self]) _

theorem State.me_sendIf (hcore : s.hasCore s.self) (hown : id = s.self → gate = false) :
    (s.sendIf gate id).me = { s.me with pc := s.me.pc + 1 } := by
  have hcore' : (s.setPcIf gate id s.me.wordCD).hasCore (s.setPcIf gate id s.me.wordCD).self := by
    rw [State.setPcIf_self]
    exact (ChangesOnly.setPcIf_target s gate id _).hasCore hcore
  rw [State.sendIf, State.me_updMe _ _ hcore', State.me_setPcIf _ hown]
  rfl

theorem State.core_sendIf (hid : s.hasCore id) (hother : id ≠ s.self) :
    (s.sendIf gate id).core id = if gate = true then { s.core id with pc := w16 s.me.c s.me.d } else s.core id :=
  (State.core_updMe_ne _ id _ (by rwa [State.setPcIf_self])).trans (State.core_setPcIf _ hid)

end

/-- Settles O30: both write the PC of one core if its gate is open, which it is not where that core is executing. -/
theorem setPcWritesHaltedTargetsOnly : Obligations.SetPcWritesHaltedTargetsOnly := by
  intro s hcore hrun
  refine ⟨encodedAs_code _, encodedAs_code _, ?onCore, ?onCpu⟩
  case onCore =>
    intro hlt target
    have hown (h : target = s.self) : (s.core target).halted = false := by rw [h]; exact hrun
    obtain ⟨hmachine, hflags, hcores⟩ := ChangesOnly.sendIf s _ _
    exact ⟨_, exec_coreSetPc hlt, hmachine, hflags, hcores, State.me_sendIf hcore hown, State.core_sendIf hlt⟩
  case onCpu =>
    intro hlt target htarget hown
    obtain ⟨hmachine, hflags, hcores⟩ := ChangesOnly.sendIf s _ _
    exact ⟨_, exec_cpuSetPc hlt, hmachine, hflags, hcores, State.me_sendIf hcore hown, State.core_sendIf htarget⟩

/-! ## Refusals -/

section
variable {i : Instr} {s : State}

/-- The operations on a core check A against the number of cores (R420). -/
theorem exec_onCore (hi : i = .coreStatus ∨ i = .coreStart ∨ i = .coreHalt ∨ i = .coreSetPc) :
    ∃ run, exec i s = withTarget .core s.numCores run s := by
  rcases hi with rfl | rfl | rfl | rfl
  · exact ⟨_, (rfl : execCoreStatus s = _)⟩
  · exact ⟨_, (rfl : execCoreStart s = _)⟩
  · exact ⟨_, (rfl : execCoreHalt s = _)⟩
  · exact ⟨_, (rfl : execCoreSetPc s = _)⟩

/-- The operations on a CPU check A against the number of CPUs (R420). -/
theorem exec_onCpu (hi : i = .cpuStatus ∨ i = .cpuStart ∨ i = .cpuHalt ∨ i = .cpuSetPc) :
    ∃ run, exec i s = withTarget .cpu s.numCpus run s := by
  rcases hi with rfl | rfl | rfl | rfl
  · exact ⟨_, (rfl : execCpuStatus s = _)⟩
  · exact ⟨_, (rfl : execCpuStart s = _)⟩
  · exact ⟨_, (rfl : execCpuHalt s = _)⟩
  · exact ⟨_, (rfl : execCpuSetPc s = _)⟩

/-- An instruction that is a check of its target completes if the target exists. -/
theorem completes_of_withTarget {kind : TargetKind} {n : Nat} (h : ∃ run, exec i s = withTarget kind n run s)
    (hlt : s.me.a.toNat < n) : ∃ t, exec i s = .next t := by
  obtain ⟨run, hrun⟩ := h
  exact ⟨_, hrun.trans (withTarget_of_lt kind n run s hlt)⟩

/-- Such an instruction is refused if the target does not exist. -/
theorem refused_of_withTarget {kind : TargetKind} {n : Nat} (h : ∃ run, exec i s = withTarget kind n run s)
    (hle : n ≤ s.me.a.toNat) : exec i s = .refused (.targetOutOfRange kind s.me.a.toNat) := by
  obtain ⟨run, hrun⟩ := h
  exact hrun.trans (withTarget_of_le kind n run s hle)

/-- SYSCALL exits, halts, or serves an operand that SYSCALL_OTHER serves (R382). -/
theorem exec_syscall_completes {n : Byte} (h : n = 0#8 ∨ n ∈ s.cfg.syscallOther) :
    ∃ t, exec (.syscall n) s = .next t := by
  by_cases hn : n = 0#8
  · subst hn
    by_cases hzero : s.self.core = 0
    · exact ⟨_, exec_syscall_zero_of_core_zero hzero⟩
    · exact ⟨_, exec_syscall_zero_of_core_ne_zero hzero⟩
  · exact ⟨_, exec_syscall_of_mem hn (h.resolve_left hn)⟩

theorem exec_breakpoint_completes (s : State) : ∃ t, exec .breakpoint s = .next t := by
  by_cases h : s.me.currentBreakpoint = some s.me.pc
  · exact ⟨_, exec_breakpoint_of_recorded h⟩
  · exact ⟨_, exec_breakpoint_of_not_recorded h⟩

/-- An instruction completes unless it is a SYSCALL or a multi-core operation that the spec refuses (R420, R466). -/
theorem exec_completes
    (hsyscall : ∀ n : Byte, i = .syscall n → n = 0#8 ∨ n ∈ s.cfg.syscallOther)
    (honCore : i = .coreStatus ∨ i = .coreStart ∨ i = .coreHalt ∨ i = .coreSetPc → s.me.a.toNat < s.numCores)
    (honCpu : i = .cpuStatus ∨ i = .cpuStart ∨ i = .cpuHalt ∨ i = .cpuSetPc → s.me.a.toNat < s.numCpus) :
    ∃ t, exec i s = .next t := by
  cases i
  case syscall n => exact exec_syscall_completes (hsyscall n rfl)
  case breakpoint => exact exec_breakpoint_completes s
  case coreStatus | coreStart | coreHalt | coreSetPc =>
    exact completes_of_withTarget (exec_onCore (by simp)) (honCore (by simp))
  case cpuStatus | cpuStart | cpuHalt | cpuSetPc =>
    exact completes_of_withTarget (exec_onCpu (by simp)) (honCpu (by simp))
  -- The meaning of every other instruction is written as a next state.
  all_goals exact ⟨_, rfl⟩

end

/-- Settles O31: the refusals of SYSCALL and of the target check, and completion everywhere else. -/
theorem stopsOnlyWhereTheSpecRefuses : Obligations.StopsOnlyWhereTheSpecRefuses := by
  intro i s onCore onCpu
  refine ⟨?syscall, fun hi => refused_of_withTarget (exec_onCore hi), fun hi => refused_of_withTarget (exec_onCpu hi),
    exec_completes⟩
  case syscall =>
    rintro n rfl hn hmem
    exact exec_syscall_of_not_mem hn hmem

end Sys2Proof.Machine
end

section
/-! SUPPORT. The interrupt controller (60_exceptions.md sections 2 and 3): its bits after an operation, the routing
ports under both layouts, the choice among the IRQ lines, and that no core sets a pending bit. -/

namespace Sys2Proof.Machine

open Sys2Proof

/-! ## The controller's bits -/

/-- The pending, enabled and unmasked IRQs (R477). -/
theorem IcState.active_getLsbD_iff (ic : IcState) (i : Irq) : ic.active.getLsbD i.val = true ↔
    ic.pending.getLsbD i.val = true ∧ ic.enabled.getLsbD i.val = true ∧ ic.mask.getLsbD i.val = false := by
  simp [IcState.active, i.isLt, and_assoc]

/-- A route lets exactly the core it names take the IRQ, and no route lets every core (R477). -/
theorem IcState.routesTo_iff (ic : IcState) (id : CoreId) (i : Irq) : ic.routesTo id i = true ↔
    ∀ r, ic.route[i] = some r → r.cpu.toNat = id.cpu ∧ r.core.toNat = id.core := by
  unfold IcState.routesTo
  split <;> simp_all

theorem IcState.deliverable_iff (ic : IcState) (id : CoreId) (i : Irq) :
    ic.deliverable id i = true ↔ ic.active.getLsbD i.val = true ∧ ic.routesTo id i = true :=
  Bool.and_eq_true_iff

/-- Settles O42: the three masks bit by bit, and the route. -/
theorem deliverableAndAcknowledge : Obligations.DeliverableAndAcknowledge := by
  intro ic id i
  refine ⟨?_, ic.acknowledge_pending i, rfl⟩
  rw [IcState.deliverable_iff, IcState.active_getLsbD_iff, IcState.routesTo_iff, and_assoc, and_assoc]

/-! ## Requests -/

/-- Settles O41: a line's request is one bit and one route, any other number a warning. -/
theorem requestSetsPendingAndRoute : Obligations.RequestSetsPendingAndRoute := by
  intro s n
  refine ⟨s.requestInterrupt_ge n, ?_⟩
  rintro i rfl
  rw [State.requestInterrupt_lt]
  refine ⟨fun j => ?pending, fun j => ?route, rfl⟩
  case pending => rw [BitVec.getLsbD_or, getLsbD_irqBit, Bool.or_comm, decide_eq_decide.mpr eq_comm]
  case route =>
    simp only [Fin.getElem_fin, Vector.getElem_set, Fin.val_inj]
    by_cases hij : i = j
    · subst hij
      cases s.ic.route[i.val] <;> simp
    · simp [hij, Ne.symm hij]

/-! ## The routing ports -/

theorem irqOf_val (i : Irq) : irqOf i.val = i := Fin.ext (Nat.mod_eq_of_lt i.isLt)

/-- The high nibble of a byte, which names the IRQ in the reference layout (R473). -/
theorem toNat_highNibble (v : Byte) : (v.extractLsb' 4 4).toNat = v.toNat / 16 := by
  have := v.isLt
  rw [BitVec.extractLsb'_toNat, Nat.shiftRight_eq_div_pow]
  omega

theorem extractLsb'_zero_eq_setWidth (v : Byte) (n : Nat) : v.extractLsb' 0 n = v.setWidth n :=
  BitVec.eq_of_toNat_eq (by simp)

theorem highNibble_eq (v : Byte) : v.extractLsb' 4 4 = (v >>> 4).setWidth 4 :=
  BitVec.eq_of_toNat_eq (by simp)

theorem State.writeIcPort_routing (s : State) {port : Nat} (h : port = 6 ∨ port = 7) (v : Byte) :
    s.writeIcPort port v = s.writeRoute port v := by
  rcases h with rfl | rfl <;> rfl

/-- A write that assigns a route to one IRQ changes that route and nothing else. -/
theorem State.route_of_setRoute {s t : State} {i : Irq} {r : Route} (h : t = { s with ic := s.ic.setRoute i r }) :
    t.ic.route[i] = some r ∧ (∀ j : Irq, j ≠ i → t.ic.route[j] = s.ic.route[j]) ∧
      t = { s with ic := { s.ic with route := t.ic.route } } := by
  subst h
  exact ⟨(s.ic.setRoute_route i i r).trans (if_pos rfl),
    fun j hji => (s.ic.setRoute_route i j r).trans (if_neg hji.symm), rfl⟩

section
variable {s : State} {v : Byte} {i : Irq} {r : Route}

/-- Reference layout, a high nibble above 7 (R464). -/
theorem State.routeByNibble_of_ge (port : Nat) (h : 8 ≤ v.toNat / 16) :
    s.routeByNibble port v = s.log (.invalidIrq (v.toNat / 16)) := by
  simp only [State.routeByNibble, toNat_highNibble, if_neg (Nat.not_lt_of_le h)]

/-- Reference layout, an IRQ without a route (R465). -/
theorem State.routeByNibble_of_none (port : Nat) (hi : v.toNat / 16 = i.val) (h : s.ic.route[i] = none) :
    s.routeByNibble port v = s.log (.routeUnrequested i port v) := by
  simp only [State.routeByNibble, toNat_highNibble, hi, irqOf_val, if_pos i.isLt, h]

/-- Reference layout, an IRQ with a route: port 6 writes the CPU index, port 7 the core index (R473). -/
theorem State.routeByNibble_of_some (port : Nat) (hi : v.toNat / 16 = i.val) (h : s.ic.route[i] = some r) :
    s.routeByNibble port v = { s with
      ic := s.ic.setRoute i
        (if port = 6 then { r with cpu := v.setWidth 4 } else { r with core := v.setWidth 4 }) } := by
  simp only [State.routeByNibble, toNat_highNibble, hi, irqOf_val, if_pos i.isLt, h, extractLsb'_zero_eq_setWidth]
  split <;> rfl

/-- Alternative layout, a selected IRQ without a route (R465). -/
theorem State.routeBySelect_of_none (hi : s.ic.routeSelect.toNat = i.val) (h : s.ic.route[i] = none) :
    s.routeBySelect 7 v = s.log (.routeUnrequested i 7 v) := by
  simp [State.routeBySelect, hi, irqOf_val, h]

/-- Alternative layout, a selected IRQ with a route: port 7 writes both indices (R473). -/
theorem State.routeBySelect_of_some (hi : s.ic.routeSelect.toNat = i.val) (h : s.ic.route[i] ≠ none) :
    s.routeBySelect 7 v =
      { s with ic := s.ic.setRoute i { cpu := (v >>> 4).setWidth 4, core := v.setWidth 4 } } := by
  obtain ⟨r, hr⟩ := Option.ne_none_iff_exists'.mp h
  simp [State.routeBySelect, hi, irqOf_val, hr, highNibble_eq, extractLsb'_zero_eq_setWidth]

end

/-- Settles O40: one equation per layout and outcome. -/
theorem routingWritesOneIndex : Obligations.RoutingWritesOneIndex := by
  intro s v
  refine ⟨fun hlayout port hport => ?nibbles, fun hlayout => ?select⟩
  case nibbles =>
    have hwrite : s.writeIcPort port v = s.routeByNibble port v := by
      rw [s.writeIcPort_routing hport, State.writeRoute, hlayout]
    rw [hwrite]
    exact ⟨State.routeByNibble_of_ge port, fun i hi => ⟨State.routeByNibble_of_none port hi,
      fun r hr => State.route_of_setRoute (State.routeByNibble_of_some port hi hr)⟩⟩
  case select =>
    have hwrite (port : Nat) (hport : port = 6 ∨ port = 7) : s.writeIcPort port v = s.routeBySelect port v := by
      rw [s.writeIcPort_routing hport, State.writeRoute, hlayout]
    rw [hwrite 6 (.inl rfl), hwrite 7 (.inr rfl), ← extractLsb'_zero_eq_setWidth v 3]
    exact ⟨rfl, fun i hi => ⟨State.routeBySelect_of_none hi,
      fun hr => State.route_of_setRoute (State.routeBySelect_of_some hi hr)⟩⟩

/-! ## The choice of an IRQ -/

/-- The first of the lines with a property is the lowest one with it (R478). -/
theorem find?_irqLines_eq_some (p : Irq → Bool) (i : Irq) :
    irqLines.find? p = some i ↔ p i = true ∧ ∀ j : Irq, j < i → p j = false := by
  have hlines : irqLines = List.finRange 8 := by decide
  rw [hlines, ← Fin.find?_eq_find?_finRange]
  exact Fin.find?_eq_some_iff

/-- Settles O43: both orders take the lowest line of a search, the second before it asks for the route (D33). -/
theorem selectsTheLowestIrq : Obligations.SelectsTheLowestIrq := by
  intro s id i
  refine ⟨fun horder => ?filter, fun horder => ?lowest⟩
  case filter =>
    rw [State.selectIrq, horder]
    exact find?_irqLines_eq_some _ i
  case lowest =>
    rw [State.selectIrq, horder]
    simp only [Option.filter_eq_some_iff, find?_irqLines_eq_some, IcState.deliverable_iff]
    tauto

/-! ## No core sets a pending bit -/

/-- Every IRQ that is pending in `t` was pending in `s`. -/
def PendingWithin (s t : State) : Prop :=
  ∀ i : Irq, t.ic.pending.getLsbD i.val = true → s.ic.pending.getLsbD i.val = true

theorem PendingWithin.trans {s t u : State} (h : PendingWithin s t) (k : PendingWithin t u) : PendingWithin s u :=
  fun i hi => h i (k i hi)

theorem PendingWithin.of_eq {s t : State} (h : t.ic.pending = s.ic.pending) : PendingWithin s t := fun _ hi => h ▸ hi

/-- An acknowledgement clears its own bit (R476). -/
theorem PendingWithin.acknowledge (s : State) (i : Irq) : PendingWithin s { s with ic := s.ic.acknowledge i } := by
  intro j hj
  rw [IcState.acknowledge_pending, Bool.and_eq_true] at hj
  exact hj.2

/-- The routing ports reach routes, the select register and the events only (R473). -/
theorem State.pending_writeRoute (s : State) (port : Nat) (v : Byte) :
    (s.writeRoute port v).ic.pending = s.ic.pending := by
  unfold State.writeRoute
  split
  · unfold State.routeByNibble
    dsimp only
    split
    · split
      · rfl
      · split <;> rfl
    · rfl
  · unfold State.routeBySelect
    split
    · rfl
    · split <;> rfl

/-- The one port write that reaches the pending bits is the acknowledgement at port 2 (R469, R470). -/
theorem PendingWithin.writeIcPort (s : State) (port : Nat) (v : Byte) : PendingWithin s (s.writeIcPort port v) := by
  unfold State.writeIcPort
  split
  case h_2 => exact .acknowledge s _
  case h_6 | h_7 => exact .of_eq (s.pending_writeRoute _ v)
  all_goals exact .of_eq rfl

theorem PendingWithin.busWrite (s : State) (c : Nat) (a : Word) (v : Byte) : PendingWithin s (s.busWrite c a v) := by
  cases hr : regionOf s.cfg a with
  | rom => rw [s.busWrite_rom c a v hr]; exact .of_eq rfl
  | io slot port =>
    rw [s.busWrite_io c a v slot port hr, State.slotWrite]
    split
    · exact .writeIcPort s port v
    · split <;> exact .of_eq rfl
  | ram => exact .of_eq (congrArg IcState.pending (State.busWrite_ic c v ((isStorage_iff _ _).mpr (.inr hr))))

/-- A move that touches a pending bit clears it. -/
theorem Move.pendingWithin {s t : State} (h : Move s t) : PendingWithin s t := by
  cases h with
  | read a => exact .of_eq (congrArg IcState.pending (s.memRead_ic a))
  | write a v => exact .busWrite s s.self.cpu a v
  | acknowledge i => exact .acknowledge s i
  | _ => exact .of_eq rfl

/-- Settles O44: a CPU-cycle is a sequence of moves. -/
theorem onlyTheHostSetsPending : Obligations.OnlyTheHostSetsPending := by
  intro c b s t h
  exact Moves.keeps (P := PendingWithin s) (fun _ _ hmove hs => hs.trans hmove.pendingWithin)
    (cpuCycle_moves c b s t h) (.of_eq rfl)

end Sys2Proof.Machine
end

section
/-! SUPPORT. Taking an interrupt on a RAM stack (60_exceptions.md section 4): what the entry leaves unchanged, where the
context stands, and why an IRET right after it reads the context back. -/

namespace Sys2Proof.Machine

open Sys2Proof

/-! ## The bytes of a context -/

/-- The addresses of a context pushed from `sp` on: FLAGS, PC high, PC low (R481, D9). -/
def contextAddrs (sp : Word) : List Word := [sp, sp - 1, sp - 2]

/-- A context pushed from `sp` on lies in RAM. -/
def StackInRam (cfg : Config) (sp : Word) : Prop := ∀ a ∈ contextAddrs sp, regionOf cfg a = .ram

theorem stackInRam_iff (cfg : Config) (sp : Word) : StackInRam cfg sp ↔
    regionOf cfg sp = .ram ∧ regionOf cfg (sp - 1) = .ram ∧ regionOf cfg (sp - 2) = .ram := by
  simp [StackInRam, contextAddrs]

/-- The executing core's CPU holds the context of `m` where it is pushed from `sp` on. -/
structure State.HoldsContext (s : State) (sp : Word) (m : CoreState) : Prop where
  /-- FLAGS, pushed first. -/
  flags : s.HoldsByte s.self.cpu sp m.flags
  /-- The high byte of PC. -/
  pcHigh : s.HoldsByte s.self.cpu (sp - 1) (hiByte m.pc)
  /-- The low byte of PC, pushed last. -/
  pcLow : s.HoldsByte s.self.cpu (sp - 2) (loByte m.pc)

section
variable {s : State} {c : Nat} {a sp : Word} {v : Byte} {m : CoreState}

/-- A byte that a core of CPU `c` writes to RAM is held by CPU `c`. -/
theorem State.holdsByte_memWrite (v : Byte) (hmem : s.mem.wf) (hself : s.self.cpu = c) (hc : c < s.numCpus)
    (ha : regionOf s.cfg a = .ram) : (s.memWrite a v).HoldsByte c a v := by
  subst hself
  exact State.holdsByte_busWrite v hmem hc ha

/-- A write by the executing core to another address keeps a held byte. -/
theorem State.HoldsByte.memWrite_ne (h : s.HoldsByte c a v) {b : Word} (hab : a ≠ b) (u : Byte) :
    (s.memWrite b u).HoldsByte c a v := h.busWrite_ne s.self.cpu hab u

/-- The executing core reads the byte its CPU holds. -/
theorem State.HoldsByte.memRead_eq (h : s.HoldsByte s.self.cpu a v) (ha : regionOf s.cfg a = .ram) :
    (s.memRead a).1 = v := h.busRead_eq ((isStorage_iff _ a).mpr (.inr ha))

/-- An acknowledgement reaches no byte. -/
theorem State.HoldsByte.acknowledge (h : s.HoldsByte c a v) (i : Irq) :
    State.HoldsByte { s with ic := s.ic.acknowledge i } c a v := ⟨h.stored, h.cached⟩

theorem State.HoldsContext.updMe (h : s.HoldsContext sp m) (f : CoreState → CoreState) :
    (s.updMe f).HoldsContext sp m := ⟨h.flags.updMe f, h.pcHigh.updMe f, h.pcLow.updMe f⟩

theorem State.HoldsContext.acknowledge (h : s.HoldsContext sp m) (i : Irq) :
    State.HoldsContext { s with ic := s.ic.acknowledge i } sp m :=
  ⟨h.flags.acknowledge i, h.pcHigh.acknowledge i, h.pcLow.acknowledge i⟩

theorem State.HoldsContext.memRead (h : s.HoldsContext sp m) (b : Word) : (s.memRead b).2.HoldsContext sp m := by
  constructor
  all_goals rw [s.memRead_self]
  case flags => exact h.flags.busRead _ b
  case pcHigh => exact h.pcHigh.busRead _ b
  case pcLow => exact h.pcLow.busRead _ b

end

/-! ## The pushes -/

theorem StoreKeeps.pushContext (s : State) (m : CoreState) : StoreKeeps s (s.pushContext m) (contextAddrs m.sp) :=
  ((StoreKeeps.memWrite s _ _).trans (.memWrite _ _ _)).trans (.memWrite _ _ _)

theorem State.pushContext_self (s : State) (m : CoreState) : (s.pushContext m).self = s.self := by
  simp only [State.pushContext, State.memWrite_self]

@[simp] theorem State.numCpus_memWrite (s : State) (a : Word) (v : Byte) : (s.memWrite a v).numCpus = s.numCpus :=
  State.numCpus_bare (s.busWrite_bare s.self.cpu a v)

theorem State.memWrite_wf {s : State} (h : s.mem.wf) (a : Word) (v : Byte) : (s.memWrite a v).mem.wf :=
  s.busWrite_wf s.self.cpu a v h

/-- A context pushed to RAM is held, as no push writes over an earlier one (R481). -/
theorem State.holdsContext_pushContext {s : State} {m : CoreState} (hmem : s.mem.wf) (hcpu : s.self.cpu < s.numCpus)
    (hram : StackInRam s.cfg m.sp) : (s.pushContext m).HoldsContext m.sp m := by
  obtain ⟨hsp, hsp1, hsp2⟩ := (stackInRam_iff s.cfg m.sp).mp hram
  have h01 : m.sp ≠ m.sp - 1 := by bv_omega
  have h02 : m.sp ≠ m.sp - 2 := by bv_omega
  have h12 : m.sp - 1 ≠ m.sp - 2 := by bv_omega
  constructor
  all_goals rw [State.pushContext_self, State.pushContext]
  case flags => exact ((State.holdsByte_memWrite _ hmem rfl hcpu hsp).memWrite_ne h01 _).memWrite_ne h02 _
  case pcHigh =>
    exact (State.holdsByte_memWrite _ (State.memWrite_wf hmem _ _) (by simp) (by simpa) (by simpa)).memWrite_ne h12 _
  case pcLow =>
    have hpushed := State.memWrite_wf (State.memWrite_wf hmem m.sp m.flags) (m.sp - 1) (hiByte m.pc)
    exact State.holdsByte_memWrite _ hpushed (by simp) (by simpa) (by simpa)

/-! ## The entry up to its check of the handler address -/

/-- An acknowledgement leaves storage. -/
theorem storageKept_acknowledge (s : State) (i : Irq) :
    StorageKeptOutside s { s with ic := s.ic.acknowledge i } [] := by
  refine ⟨fun _ _ => rfl, fun c a _ ha => ?_⟩
  rw [State.busRead_storage { s with ic := s.ic.acknowledge i } c a ha, s.busRead_storage c a ha]
  rfl

theorem RestKept.acknowledge (s : State) (i : Irq) : RestKept s { s with ic := s.ic.acknowledge i } :=
  .of_bare rfl ⟨rfl, rfl, rfl, rfl, rfl⟩

section
variable (s : State) (i : Irq)

theorem RestKept.enterInterrupt : RestKept s (s.enterInterrupt i) := by
  rw [State.enterInterrupt_spec]
  obtain ⟨-, hrest, -⟩ := storeKeeps_iff.mp (StoreKeeps.pushContext s s.me)
  exact (hrest.trans (.updMe _ _)).trans (.acknowledge _ i)

/-- The entry stores to the three addresses of the context only (R481). -/
theorem storageKept_enterInterrupt : StorageKeptOutside s (s.enterInterrupt i) (contextAddrs s.me.sp) := by
  rw [State.enterInterrupt_spec, ← List.append_nil (contextAddrs s.me.sp)]
  obtain ⟨hstored, hrest, -⟩ := storeKeeps_iff.mp ((StoreKeeps.pushContext s s.me).then_updMe fun _ =>
    { s.me with ie := false, inHandler := true, sp := s.me.sp - 3 })
  obtain ⟨hcfg, -⟩ := hrest.setting
  exact hstored.trans (storageKept_acknowledge _ i) hcfg

theorem State.enterInterrupt_oracleDraws : (s.enterInterrupt i).oracleDraws = s.oracleDraws := by
  rw [State.enterInterrupt_spec]
  obtain ⟨-, -, -, hdraws, -⟩ := storeKeeps_iff.mp (StoreKeeps.pushContext s s.me)
  exact hdraws

end

/-! ## The entry on a RAM stack -/

section
variable {s : State} (i : Irq) (hram : StackInRam s.cfg s.me.sp)
include hram

/-- No push reaches the controller: the acknowledgement is all that does (R481). -/
theorem State.enterInterrupt_ic : (s.enterInterrupt i).ic = s.ic.acknowledge i := by
  rw [State.enterInterrupt_spec]
  obtain ⟨-, -, -, -, hic, -⟩ := storeKeeps_iff.mp (StoreKeeps.pushContext s s.me)
  exact congrArg (fun ic => ic.acknowledge i) (hic fun a ha => (isStorage_iff _ a).mpr (.inr (hram a ha)))

theorem State.handlerAddr_enterInterrupt : (s.enterInterrupt i).ic.handlerAddr = s.ic.handlerAddr := by
  rw [State.enterInterrupt_ic i hram, IcState.acknowledge]

theorem State.enterInterrupt_events : (s.enterInterrupt i).events = s.events := by
  rw [State.enterInterrupt_spec]
  obtain ⟨-, -, -, -, -, hevents⟩ := storeKeeps_iff.mp (StoreKeeps.pushContext s s.me)
  exact hevents hram

theorem State.holdsContext_enterInterrupt (hmem : s.mem.wf) (hcpu : s.self.cpu < s.numCpus) :
    (s.enterInterrupt i).HoldsContext s.me.sp s.me := by
  rw [State.enterInterrupt_spec]
  exact ((State.holdsContext_pushContext hmem hcpu hram).updMe _).acknowledge i

/-- With a handler address the entry ends in a change of PC (R481). -/
theorem interruptEntry_of_handler (h : s.ic.handlerAddr ≠ 0#16) : interruptEntry i s =
    .next ((s.enterInterrupt i).updMe fun m => { m with pc := s.ic.handlerAddr }) := by
  rw [← State.handlerAddr_enterInterrupt i hram] at h ⊢
  exact if_neg h

/-- Without one it is Fatal before PC changes (R462, D43). -/
theorem interruptEntry_of_no_handler (h : s.ic.handlerAddr = 0#16) : interruptEntry i s =
    .fault (.zeroHandler i s.self.cpu s.self.core (s.enterInterrupt i)) := by
  rw [← State.handlerAddr_enterInterrupt i hram] at h
  exact if_pos h

end

/-- The executing core after a last change of it. -/
theorem State.me_enterInterrupt_updMe {s : State} (i : Irq) (f : CoreState → CoreState) (hcore : s.hasCore s.self) :
    ((s.enterInterrupt i).updMe f).me = f { s.me with ie := false, inHandler := true, sp := s.me.sp - 3 } := by
  have hentered := RestKept.enterInterrupt s i
  obtain ⟨-, -, hself, -⟩ := hentered.setting
  rw [State.me_updMe _ f (hself ▸ hentered.shape.hasCore hcore), s.me_enterInterrupt i hcore]

/-- Settles O45: the entry up to its check, then one change of PC. -/
theorem interruptEntrySavesContext : Obligations.InterruptEntrySavesContext := by
  intro s i ⟨hmem, _⟩ hcore hhandler hsp hsp1 hsp2
  have hram : StackInRam s.cfg s.me.sp := (stackInRam_iff _ _).mpr ⟨hsp, hsp1, hsp2⟩
  have hcontext := State.holdsContext_enterInterrupt i hram hmem (s.lt_of_hasCore s.self hcore)
  have hentered := RestKept.enterInterrupt s i
  obtain ⟨hcfg, -⟩ := hentered.setting
  obtain ⟨hcores, hshape, hcpuFlags, hset⟩ := hentered.trans (.updMe _ fun m => { m with pc := s.ic.handlerAddr })
  exact ⟨_, interruptEntry_of_handler i hram hhandler, State.me_enterInterrupt_updMe i _ hcore, hcontext.flags.stored,
    hcontext.pcHigh.stored, hcontext.pcLow.stored, (storageKept_enterInterrupt s i).trans (State.updMe_kept _ _) hcfg,
    State.enterInterrupt_ic i hram, State.enterInterrupt_events i hram, s.enterInterrupt_oracleDraws i, hcores, hshape,
    hcpuFlags, hset⟩

/-- Settles O46: the entry stops at its check. -/
theorem zeroHandlerIsFatal : Obligations.ZeroHandlerIsFatal := by
  intro s i ⟨hmem, _⟩ hcore hhandler hsp hsp1 hsp2
  have hram : StackInRam s.cfg s.me.sp := (stackInRam_iff _ _).mpr ⟨hsp, hsp1, hsp2⟩
  have hcontext := State.holdsContext_enterInterrupt i hram hmem (s.lt_of_hasCore s.self hcore)
  exact ⟨_, interruptEntry_of_no_handler i hram hhandler, s.me_enterInterrupt i hcore, hcontext.flags.stored,
    hcontext.pcHigh.stored, hcontext.pcLow.stored, State.enterInterrupt_ic i hram⟩

/-! ## IRET after an entry -/

/-- An IRET above a context in RAM that its CPU holds pops it to PC and FLAGS (R348). -/
theorem exec_iret_of_holdsContext {s : State} {sp : Word} {m : CoreState} (hcore : s.hasCore s.self)
    (hsp : s.me.sp = sp - 3) (hcontext : s.HoldsContext sp m) (hram : StackInRam s.cfg sp) :
    ∃ u, exec .iret s = .next u ∧
      u.me = { s.me with sp := sp, pc := m.pc, flags := m.flags, ie := true, inHandler := false } := by
  obtain ⟨hram0, hram1, hram2⟩ := (stackInRam_iff s.cfg sp).mp hram
  have hsp1 : s.me.sp + 1 = sp - 2 := by bv_omega
  have hsp2 : s.me.sp + 2 = sp - 1 := by bv_omega
  have hsp3 : s.me.sp + 3 = sp := by bv_omega
  have hlo : (s.memRead (sp - 2)).1 = loByte m.pc := hcontext.pcLow.memRead_eq hram2
  have hhi : ((s.memRead (sp - 2)).2.memRead (sp - 1)).1 = hiByte m.pc :=
    (hcontext.memRead _).pcHigh.memRead_eq (by simpa)
  have hflags : (((s.memRead (sp - 2)).2.memRead (sp - 1)).2.memRead sp).1 = m.flags :=
    ((hcontext.memRead _).memRead _).flags.memRead_eq (by simpa)
  refine ⟨_, congrArg Host.Outcome.next (interruptReturn_spec s hcore), ?_⟩
  rw [State.me_updMe _ _ (by simpa), hsp1, hsp2, hsp3, hlo, hhi, hflags, Laws.w16_lo_hi]

/-- Settles O47: the entry leaves the context where IRET reads it, and changes no other register but SP, which comes
back. -/
theorem interruptReturnUndoesEntry : Obligations.InterruptReturnUndoesEntry := by
  intro s t i ⟨hmem, _⟩ hcore hie hin hsp hsp1 hsp2 hentry
  have hram : StackInRam s.cfg s.me.sp := (stackInRam_iff _ _).mpr ⟨hsp, hsp1, hsp2⟩
  have hhandler : s.ic.handlerAddr ≠ 0#16 := by
    intro hzero
    rw [interruptEntry_of_no_handler i hram hzero] at hentry
    cases hentry
  rw [interruptEntry_of_handler i hram hhandler] at hentry
  injection hentry with ht
  have hrest := (RestKept.enterInterrupt s i).trans (.updMe _ fun m => { m with pc := s.ic.handlerAddr })
  have hcontext := (State.holdsContext_enterInterrupt i hram hmem (s.lt_of_hasCore s.self hcore)).updMe fun m =>
    { m with pc := s.ic.handlerAddr }
  have hme := State.me_enterInterrupt_updMe i (fun m => { m with pc := s.ic.handlerAddr }) hcore
  rw [ht] at hrest hcontext hme
  obtain ⟨hcfg, -, hself, -⟩ := hrest.setting
  obtain ⟨u, hiret, hu⟩ := exec_iret_of_holdsContext (hself ▸ hrest.shape.hasCore hcore)
    (congrArg CoreState.sp hme) hcontext (hcfg ▸ hram)
  refine ⟨u, hiret, ?_⟩
  rw [hu, hme, ← hie, ← hin]

end Sys2Proof.Machine
end

section
/-! SUPPORT. The host (60_exceptions.md section 6): its actions at the head of the script, and the end of a run. -/

namespace Sys2Proof.Machine

open Sys2Proof

/-! ## The script -/

/-- An action at the head of the script is the next step, on the machine with the script's rest (R492, log 2). -/
theorem step_of_host {s : State} {x : HostAction} {rest : List HostAction} (h : s.host = x :: rest) :
    step s = hostAction x { s with host := rest } := by
  rw [step, State.nextAction, h]

/-- The canonical form of a list of addresses holds the same addresses (R48, log 13). -/
theorem mem_addressSet (a : Word) (l : List Word) : a ∈ addressSet l ↔ a ∈ l := by
  induction l with
  | nil => exact .rfl
  | cons b l ih => rw [List.mem_cons, ← ih]; exact mem_addAddress b a (addressSet l)

/-- Settles O54: the head of the script is performed, and a breakpoint set is known by its members. -/
theorem hostActionsTakeEffect : Obligations.HostActionsTakeEffect := by
  intro s rest c n l u
  exact ⟨step_of_host, step_of_host, step_of_host, step_of_host,
    fun h => ⟨_, step_of_host h, fun a => mem_addressSet a l, rfl⟩, step_of_host⟩

/-! ## The end of a run -/

/-- At the end of a run a CPU is halted or all its cores are, whether it exists or not (R493, log 11). -/
theorem State.Ended.cpu {s : State} (h : s.Ended) (c : Nat) :
    (s.cpu c).halted = true ∨ ∀ k, (s.core ⟨c, k⟩).halted = true := by
  by_cases hc : c < s.numCpus
  · refine (h _ (s.cpu_mem c hc)).imp_right fun hcores k => ?_
    by_cases hk : k < (s.cpu c).cores.length
    · simpa [State.core, hk] using hcores _ (List.getElem_mem hk)
    · simp [State.core, hk, CoreState.absent, CoreState.atReset]
  · rw [s.cpu_of_le c (Nat.le_of_not_lt hc)]
    exact .inl rfl

/-- The core-cycles of halted cores do nothing (R203). -/
theorem coreCycles_of_halted {c : Nat} {s : State} (h : ∀ k, (s.core ⟨c, k⟩).halted = true) (ks : List Nat) :
    coreCycles c ks s = .next s := by
  induction ks with
  | nil => rfl
  | cons k ks ih => rw [coreCycles, coreCycle_of_halted (h k)]; exact ih

theorem cpuCycle_of_ended {s : State} (h : s.Ended) (c : Nat) (ignorePause : Bool) :
    cpuCycle c ignorePause s = .next s := by
  rcases h.cpu c with hcpu | hcores
  · exact cpuCycle_of_not_mayRun (by simp [CpuState.mayRun_iff, hcpu])
  · unfold cpuCycle
    rw [coreCycles_of_halted hcores, ite_self]

/-- Settles O57: a tick and a debug step are CPU-cycles on the machine with the schedule moved on. -/
theorem endedRunStaysEnded : Obligations.EndedRunStaysEnded := by
  intro s c hended haction
  obtain ⟨-, hcpus, -⟩ := s.nextAction_kept
  have hnext : s.nextAction.2.Ended := by rwa [State.Ended, hcpus]
  unfold step
  rcases haction with htick | hdebug
  · rw [htick]; exact cpuCycle_of_ended hnext c false
  · rw [hdebug]; exact cpuCycle_of_ended hnext c true

end Sys2Proof.Machine
end

section
/-! SUPPORT. Launch and reset (70_reset_and_hazards.md section 1): what `State.launch` builds for every choice of its
arguments, and `State.reset` as the reference choice. -/

namespace Sys2Proof.Machine

open Sys2Proof

/-- The CPU that launch builds of a shape: not paused, its cache empty, every core at its reset values (R46, R540). -/
def CpuShape.atLaunch (cfg : Config) (p : CpuShape) : CpuState where
  halted := p.halted
  paused := false
  cache := []
  cores := p.coresHalted.map (CoreState.atReset cfg.resetVector)

/-! ## The interrupt controller -/

theorem IcState.route_atReset (i : Irq) : IcState.atReset.route[i] = none := by
  simp [IcState.atReset]

theorem IcState.routed_atReset : IcState.atReset.routed := fun i hi => by
  simp [IcState.atReset] at hi

/-! ## The CPUs and cores of a launch -/

section

variable {cfg : Config} {shape : List CpuShape} {image : Memory} {breakpoints : List Word}

theorem State.cpus_launch : (State.launch cfg shape image breakpoints).cpus = shape.map (CpuShape.atLaunch cfg) := rfl

theorem State.numCpus_launch : (State.launch cfg shape image breakpoints).numCpus = shape.length := List.length_map ..

theorem State.cpu_launch {c : Nat} {p : CpuShape} (hp : shape[c]? = some p) :
    (State.launch cfg shape image breakpoints).cpu c = p.atLaunch cfg := by
  simp only [State.cpu, State.cpus_launch, List.getElem?_map, hp, Option.map_some, Option.getD_some]

theorem State.hasCore_launch {c k : Nat} {p : CpuShape} {h : Bool} (hp : shape[c]? = some p)
    (hk : p.coresHalted[k]? = some h) : (State.launch cfg shape image breakpoints).hasCore ⟨c, k⟩ := by
  obtain ⟨hlt, -⟩ := List.getElem?_eq_some_iff.mp hk
  simpa [State.hasCore, State.cpu_launch hp, CpuShape.atLaunch] using hlt

theorem State.core_launch {c k : Nat} {p : CpuShape} {h : Bool} (hp : shape[c]? = some p)
    (hk : p.coresHalted[k]? = some h) :
    (State.launch cfg shape image breakpoints).core ⟨c, k⟩ = CoreState.atReset cfg.resetVector h := by
  simp only [State.core, State.cpu_launch hp, CpuShape.atLaunch, List.getElem?_map, hk,
    Option.map_some, Option.getD_some]

/-- A launch has a CPU, and a core of each, exactly when its shape does (R7). -/
theorem State.populated_launch_iff :
    (State.launch cfg shape image breakpoints).populated ↔ shapeWf shape = true := by
  simp [State.populated, State.cpus_launch, CpuShape.atLaunch, shapeWf]

/-- A launch of canonical storage and a canonical breakpoint set meets the invariant: every cache is empty and no IRQ is
pending. -/
theorem State.inv_launch (hmem : image.wf) (hbreak : breakpoints.Pairwise fun x y => x < y) :
    (State.launch cfg shape image breakpoints).Inv := by
  refine ⟨hmem, fun p hp => ?_, IcState.routed_atReset, hbreak⟩
  rw [State.cpus_launch] at hp
  obtain ⟨q, -, rfl⟩ := List.mem_map.mp hp
  exact ⟨Nat.zero_le _, .nil, fun x hx => nomatch hx⟩

end

/-! ## The statements -/

/-- Settles O59: the reset is a launch with nothing loaded and no breakpoint. -/
theorem invariantHoldsAtReset : Obligations.InvariantHoldsAtReset :=
  State.inv_launch reset_mem_wf .nil

/-- Settles O60: each piece of the launch by its lemma above. -/
theorem launchGivesTheResetValues : Obligations.LaunchGivesTheResetValues := by
  intro cfg shape image breakpoints s
  refine ⟨rfl, rfl, rfl, State.numCpus_launch, State.populated_launch_iff.mpr,
    ⟨rfl, rfl, rfl, rfl, rfl, IcState.route_atReset⟩, fun c p hp => ?_⟩
  have hcpu : s.cpu c = p.atLaunch cfg := State.cpu_launch hp
  rw [hcpu]
  exact ⟨rfl, rfl, rfl, fun k h hk => ⟨State.hasCore_launch hp hk, State.core_launch hp hk⟩⟩

end Sys2Proof.Machine
end
